-- ==== Sys2Proof/Word.lean ====
section
/-! DEFINITION. The word and byte types of the hardware (spec/00_scope.md R8, R9) and the one arithmetic
operation every `BC` rule uses, addition modulo 2^32. -/

namespace Sys2Proof

/-- A byte: 8 bits, an integer 0 to 255 (R9). -/
abbrev Byte := BitVec 8

/-- A word: 32 bits, bit 0 the least significant, always unsigned (R8). -/
abbrev Word := BitVec 32

/-- `add32(a, b)` = (a + b) mod 2^32; the carry is discarded (R8, R130). -/
def add32 (a b : Word) : Word := a + b

end Sys2Proof
end

