-- ==== Sys2Proof/Syntax.lean ====
section
/-! DEFINITION. The names of the hardware's parts and its 14 commands (spec/30_encoding.md R100 to R103,
spec/opcode_table.json). A command is the analogue of an instruction (R14). -/

namespace Sys2Proof

/-- The two fixed-function units (R1, R14). -/
inductive UnitId where
  | bc
  | qr
deriving DecidableEq, Repr, Inhabited

/-- The two byte buffers each unit owns (R34, R35). -/
inductive BufferId where
  | ibuf
  | obuf
deriving DecidableEq, Repr, Inhabited

/-- Who takes the next step: the host, one of the units (R15), or the reset input common to both units
(R300). The entropy source has no step of its own (R15). -/
inductive Agent where
  | host
  | unit (u : UnitId)
  | reset
deriving DecidableEq, Repr, Inhabited

/-- The commands, one constructor for each row of spec/opcode_table.json. Byte-sequence operands are never in the
command word (R102): only `QR.KEYGEN` and `QR.ISPRIME` carry an immediate. -/
inductive Instr where
  /-- `BC.INIT` (R152): build the key state from the key in `BC.IBUF`. -/
  | bcInit
  /-- `BC.ENCB` (R135): encrypt one 8-byte block. -/
  | bcEncb
  /-- `BC.DECB` (R136): decrypt one 8-byte block. -/
  | bcDecb
  /-- `BC.ENC` (R172): pad and encrypt a message. -/
  | bcEnc
  /-- `BC.DEC` (R174): decrypt a message and remove its padding. -/
  | bcDec
  /-- `BC.CLEAR` (R155): end the life of the `BC` key. -/
  | bcClear
  /-- `QR.KEYGEN kbits` (R214): generate the two primes; `kbits` = `CMD[23:8]`. -/
  | qrKeygen (kbits : Nat)
  /-- `QR.ISPRIME k` (R213): test the number in `QR.IBUF`; `k` = `CMD[15:8]`. -/
  | qrIsprime (k : Nat)
  /-- `QR.ENC` (R241): encrypt by squaring modulo `n`. -/
  | qrEnc
  /-- `QR.DEC` (R245): decrypt with the four square roots. -/
  | qrDec
  /-- `QR.GETN` (R216): read the public modulus. -/
  | qrGetn
  /-- `QR.GETP` (R217): read the private prime `p`. -/
  | qrGetp
  /-- `QR.GETQ` (R218): read the private prime `q`. -/
  | qrGetq
  /-- `QR.CLEAR` (R219): destroy the `QR` key. -/
  | qrClear
deriving DecidableEq, Repr

/-- The unit whose `CMD` register takes the command (the column "unit" of R103). -/
def Instr.unit : Instr → UnitId
  | .bcInit => .bc
  | .bcEncb => .bc
  | .bcDecb => .bc
  | .bcEnc => .bc
  | .bcDec => .bc
  | .bcClear => .bc
  | .qrKeygen _ => .qr
  | .qrIsprime _ => .qr
  | .qrEnc => .qr
  | .qrDec => .qr
  | .qrGetn => .qr
  | .qrGetp => .qr
  | .qrGetq => .qr
  | .qrClear => .qr

end Sys2Proof
end

