-- ==== Sys2Proof/WellFormed.lean ====
section
/-! DEFINITION. Which terms of `Instr` are commands: an immediate fits its field of the command word
(spec/30_encoding.md R102). -/

namespace Sys2Proof

/-- `kbits` is a 16-bit and `k` an 8-bit unsigned integer (R102); the other commands carry nothing to check. A value
`kbits` that is odd or out of range is a legal word: it faults with `InvalidKeySize` when it runs (R214). -/
def Instr.wellFormed : Instr → Bool
  | .qrKeygen kbits => decide (kbits < 2 ^ 16)
  | .qrIsprime k => decide (k < 2 ^ 8)
  | .bcInit => true
  | .bcEncb => true
  | .bcDecb => true
  | .bcEnc => true
  | .bcDec => true
  | .bcClear => true
  | .qrEnc => true
  | .qrDec => true
  | .qrGetn => true
  | .qrGetp => true
  | .qrGetq => true
  | .qrClear => true

end Sys2Proof
end

