-- ==== Sys2Proof/Decode.lean ====
section
/-! DEFINITION. The command word: its fields, the opcode map, the decoder of each unit's `CMD` register and the encoder
(spec/30_encoding.md R101 to R103, R106, R108). -/

namespace Sys2Proof

/-- `OP`, bits 7:0 (R101). -/
def opField (w : Word) : Byte := w.extractLsb' 0 8

/-- `ARG`, bits 31:8 (R101). -/
def argField (w : Word) : BitVec 24 := w.extractLsb' 8 24

/-- `kbits` of `QR.KEYGEN`, bits 23:8 (R102). -/
def kbitsField (w : Word) : BitVec 16 := w.extractLsb' 8 16

/-- The part of `ARG` that `QR.KEYGEN` does not use, bits 31:24 (R102). -/
def keygenRest (w : Word) : BitVec 8 := w.extractLsb' 24 8

/-- `k` of `QR.ISPRIME`, bits 15:8 (R102). -/
def kField (w : Word) : BitVec 8 := w.extractLsb' 8 8

/-- The part of `ARG` that `QR.ISPRIME` does not use, bits 31:16 (R102). -/
def isprimeRest (w : Word) : BitVec 16 := w.extractLsb' 16 16

/-- Why a word is no command of the unit it was written to (R106). All three make the same fault, `IllegalCommand`. -/
inductive DecodeError where
  /-- `OP` is in no row of the opcode map. -/
  | unassigned
  /-- `OP` is in the other unit's column. -/
  | wrongUnit
  /-- `OP` is the unit's, but a must-be-zero bit of `ARG` is 1. -/
  | argNotZero
deriving DecidableEq, Repr

/-- The `OP` values in the `BC` column of R103. -/
def bcOps : List Byte := [0x01, 0x02, 0x03, 0x04, 0x05, 0x0F]

/-- The `OP` values in the `QR` column of R103. -/
def qrOps : List Byte := [0x11, 0x12, 0x14, 0x15, 0x16, 0x17, 0x18, 0x1F]

/-- A command whose unused bits are `rest`: every bit it does not use must be 0 (R101). -/
def needZero {n : Nat} (rest : BitVec n) (i : Instr) : Except DecodeError Instr :=
  if rest = 0 then .ok i else .error .argNotZero

/-- The decoder of `BC.CMD` (R101, R103, R106): the command from `OP` alone, then the check of `ARG`. -/
def decodeBc (w : Word) : Except DecodeError Instr :=
  if opField w = 0x01 then needZero (argField w) .bcInit
  else if opField w = 0x02 then needZero (argField w) .bcEncb
  else if opField w = 0x03 then needZero (argField w) .bcDecb
  else if opField w = 0x04 then needZero (argField w) .bcEnc
  else if opField w = 0x05 then needZero (argField w) .bcDec
  else if opField w = 0x0F then needZero (argField w) .bcClear
  else if opField w ∈ qrOps then .error .wrongUnit
  else .error .unassigned

/-- The decoder of `QR.CMD` (R101 to R103, R106). -/
def decodeQr (w : Word) : Except DecodeError Instr :=
  if opField w = 0x11 then needZero (keygenRest w) (.qrKeygen (kbitsField w).toNat)
  else if opField w = 0x12 then needZero (isprimeRest w) (.qrIsprime (kField w).toNat)
  else if opField w = 0x14 then needZero (argField w) .qrEnc
  else if opField w = 0x15 then needZero (argField w) .qrDec
  else if opField w = 0x16 then needZero (argField w) .qrGetn
  else if opField w = 0x17 then needZero (argField w) .qrGetp
  else if opField w = 0x18 then needZero (argField w) .qrGetq
  else if opField w = 0x1F then needZero (argField w) .qrClear
  else if opField w ∈ bcOps then .error .wrongUnit
  else .error .unassigned

/-- What a word written to the `CMD` register of unit `u` means (R103). Total: every word is a command or is rejected
by name (R106). -/
def decode (u : UnitId) (w : Word) : Except DecodeError Instr :=
  match u with
  | .bc => decodeBc w
  | .qr => decodeQr w

/-- The command word of each command, the constants of R108. DESIGN CHOICE for an immediate too large for its field, of which R102 and
R108 give no word: the sum of R108 is taken all the same, modulo 2^32 (notes/assumptions/16.md). -/
def encode : Instr → Word
  | .bcInit => 0x00000001
  | .bcEncb => 0x00000002
  | .bcDecb => 0x00000003
  | .bcEnc => 0x00000004
  | .bcDec => 0x00000005
  | .bcClear => 0x0000000F
  | .qrKeygen kbits => BitVec.ofNat 32 (0x00000011 + kbits * 0x100)
  | .qrIsprime k => BitVec.ofNat 32 (0x00000012 + k * 0x100)
  | .qrEnc => 0x00000014
  | .qrDec => 0x00000015
  | .qrGetn => 0x00000016
  | .qrGetp => 0x00000017
  | .qrGetq => 0x00000018
  | .qrClear => 0x0000001F

/-- A row of the opcode map as R103 prints it. -/
structure OpcodeRow where
  unit : UnitId
  op : Byte
  pattern : Word
  mask : Word
deriving DecidableEq, Repr

/-- The opcode map of R103, row by row: unit, `OP`, match, mask. The decoder does not use it; statements compare the two. -/
def opcodeMap : List OpcodeRow :=
  [⟨.bc, 0x01, 0x00000001, 0xFFFFFFFF⟩, ⟨.bc, 0x02, 0x00000002, 0xFFFFFFFF⟩,
   ⟨.bc, 0x03, 0x00000003, 0xFFFFFFFF⟩, ⟨.bc, 0x04, 0x00000004, 0xFFFFFFFF⟩,
   ⟨.bc, 0x05, 0x00000005, 0xFFFFFFFF⟩, ⟨.bc, 0x0F, 0x0000000F, 0xFFFFFFFF⟩] ++
  [⟨.qr, 0x11, 0x00000011, 0xFF0000FF⟩, ⟨.qr, 0x12, 0x00000012, 0xFFFF00FF⟩,
   ⟨.qr, 0x14, 0x00000014, 0xFFFFFFFF⟩, ⟨.qr, 0x15, 0x00000015, 0xFFFFFFFF⟩,
   ⟨.qr, 0x16, 0x00000016, 0xFFFFFFFF⟩, ⟨.qr, 0x17, 0x00000017, 0xFFFFFFFF⟩,
   ⟨.qr, 0x18, 0x00000018, 0xFFFFFFFF⟩, ⟨.qr, 0x1F, 0x0000001F, 0xFFFFFFFF⟩]

/-- A word matches a row of unit `u`: `(word AND mask) = match` (R103). -/
def OpcodeRow.accepts (r : OpcodeRow) (u : UnitId) (w : Word) : Bool :=
  decide (r.unit = u ∧ w &&& r.mask = r.pattern)

/-- The unit whose opcode range holds the word's `OP`: `BC` below 0x10, `QR` from there (R103, the disjoint ranges of D3).
It says on which unit's `CMD` register a word of the opcode table is written. -/
def homeUnit (w : Word) : UnitId := if (opField w).toNat < 0x10 then .bc else .qr

/-- The 32-bit command word whose lowest `nbits` bits are those of `w`; every bit above is 0. There is one command length,
32 bits (R101), so nothing is a word of more. -/
def tableWord (nbits w : Nat) : Option Word :=
  if nbits ≤ 32 then some (BitVec.ofNat 32 (w % 2 ^ nbits)) else none

/-- The command the decoder reads from the word of an opcode-table row. -/
def decodeTableWord (nbits w : Nat) : Option Instr :=
  match tableWord nbits w with
  | none => none
  | some word =>
    match decode (homeUnit word) word with
    | .ok i => some i
    | .error _ => none

end Sys2Proof
end

