-- ==== Sys2Proof/Machine/State.lean ====
section
/-! DEFINITION. Everything the machine holds (spec/10_state.md), the inputs from outside that have not been consumed yet,
and the state after reset. All of it is plain data. -/

namespace Sys2Proof.Machine

/-- A byte buffer: (index, byte) pairs with strictly rising indices. An index that is not listed has not been written since
reset, and reads as the unspecified byte it holds since then (R34, R35; `Config.resetByte`, notes/assumptions/4.md). -/
abbrev Memory := List Host.Cell

/-- One unit's interface registers, buffers and command latch; each unit has its own copy (R28 to R36). `CMD` holds no value of
its own (R28), and `STATUS.KEYED` is told by the unit's key (see `BcUnit`, `QrUnit`). -/
structure Shell where
  /-- `STATUS[0]`, `BUSY` (R29). -/
  busy : Bool
  /-- `STATUS[1]`, `DONE` (R29). -/
  done : Bool
  /-- `STATUS[2]`, `ERR` (R29). -/
  err : Bool
  /-- `ERRCODE[7:0]`; bits 31:8 read 0 (R30). -/
  errcode : Byte
  /-- `CTRL[0]`, `IE`; bits 31:1 read 0 (R31). -/
  ie : Bool
  /-- `ILEN` (R32). -/
  ilen : Word
  /-- `OLEN` (R33). -/
  olen : Word
  /-- `IBUF` (R34). -/
  ibuf : Memory
  /-- `OBUF` (R35). -/
  obuf : Memory
  /-- `CMDLATCH`, hidden (R36). -/
  cmdlatch : Word
deriving DecidableEq, Repr

/-- A completed key schedule: the subkeys `P[0..17]` (R21) and the tables `S[0..3][0..255]` (R23). -/
structure BcKey where
  P : Vector Word 18
  S : Vector (Vector Word 256) 4
deriving DecidableEq, Repr

/-- The `BC` unit (R20). `key = none` is the spec's own "no value" of `P` and `S`, while `KEYED` = 0 (R21, R23, R155);
`KEYED` is 1 exactly when a key is held (R24). -/
structure BcUnit where
  key : Option BcKey
  shell : Shell
deriving DecidableEq, Repr

/-- A generated key: `QR.p`, `QR.q` (R41) and `QR.n` (R42), integers of no fixed width (R190). -/
structure QrKey where
  p : Nat
  q : Nat
  n : Nat
deriving DecidableEq, Repr

/-- The `QR` unit (R40). `key = none` is the spec's own "no value" of `p`, `q`, `n`, while `KEYED` = 0 (R41, R42, R219);
`KEYED` is 1 exactly when a key is held (R45). -/
structure QrUnit where
  key : Option QrKey
  shell : Shell
  /-- The MODEL's own: the prime `p` a `QR.KEYGEN` in flight has already accepted while it still searches for `q` (R214, R306).
  No spec rule names it; it is hidden and lost with the command (notes/assumptions/9.md). -/
  found : Option Nat
deriving DecidableEq, Repr

/-- The entropy source as the machine sees it (R12, R47): the answers it will give next, oldest first, and how many answers it
has given. After the listed answers every further one is free (`Config.entropyAnswer`). The MODEL's own
(notes/assumptions/6.md). -/
structure Entropy where
  answers : List Nat
  given : Nat
deriving DecidableEq, Repr

/-- Where a host access goes: to an offset of a unit's window, as a host script names it (R108), or to a bus address (R70). An
offset has 14 bits because a window has 16 KiB (R70). -/
inductive Target where
  | window (u : UnitId) (off : BitVec 14)
  | bus (addr : Nat)
deriving DecidableEq, Repr

/-- One action of the host (R15, R81, R108, R109). `bits` is the access width; an 8-bit write stores the low byte of `v`. -/
inductive HostOp where
  /-- `RD`, `RB`: a read. -/
  | read (t : Target) (bits : Nat)
  /-- `WR`, `WB`: a write. -/
  | write (t : Target) (bits : Nat) (v : Word)
  /-- `WAIT u`: read `STATUS` until `BUSY` reads 0 (R109). -/
  | waitIdle (u : UnitId)
  /-- `WAITIRQ u`: no bus access until `u.irq` is 1 (R109). -/
  | waitIrq (u : UnitId)
  /-- `STORE u`: read `OLEN`, then that many bytes of `OBUF` (R109). -/
  | store (u : UnitId)
deriving DecidableEq, Repr

/-- How the bus answers one host access (R79, R81). -/
inductive Reply where
  /-- The value of a 32-bit read. -/
  | word (v : Word)
  /-- The value of an 8-bit read. -/
  | byte (v : Byte)
  /-- A completed write, performed or ignored (R71, R310). -/
  | written
  /-- `HostFault`: a width or alignment the window does not accept; no value, no effect on any unit (R79). -/
  | hostFault
deriving DecidableEq, Repr

/-- The machine: the two units, the configuration they are built with, and around them what comes from outside (R15, R50). -/
structure State where
  /-- The `BC` unit. -/
  bc : BcUnit
  /-- The `QR` unit. -/
  qr : QrUnit
  /-- The entropy source's answers. The MODEL's own. -/
  entropy : Entropy
  /-- The host's actions still to come, in its program order (R15, R85). The MODEL's own. -/
  script : List HostOp
  /-- What the bus has answered the host, newest first. The MODEL's own. -/
  replies : List Reply
  /-- Who takes the next steps; when it is empty the choice is free (`Config.nextAgent`). The MODEL's own. -/
  schedule : List Agent
  /-- How many steps have been taken; it numbers the free choices of agent. The MODEL's own. -/
  turns : Nat
  /-- How many reads of a busy unit had an unspecified value; it numbers them (R311). The MODEL's own. -/
  busyReads : Nat
  /-- How many resets there were; it numbers the unspecified buffer contents (R301). The MODEL's own. -/
  resets : Nat
  /-- The configuration of R7, a parameter of every step and changed by none (R50, R60, R300). A field, because a step takes
  nothing but a state (notes/assumptions/1.md). -/
  params : Params
deriving DecidableEq, Repr

/-- Why the machine stops with a fault. A command's failure is none of these: it is a next state with `ERR` = 1 (R262). -/
inductive Fault where
  /-- Raised by the host's step when its next access is to a bus address in neither unit's window. What stands there is
  the platform's (R83, U25), so the model stops; SAFE (notes/assumptions/3.md). -/
  | noWindow (addr : Nat)
deriving DecidableEq, Repr

/-- Why the machine has no meaning for a command. -/
inductive Refusal where
  /-- Raised by an arm of `exec` whose command has no meaning yet; there is none such. SAFE. -/
  | notModelled (mnemonic : String)
deriving DecidableEq, Repr

/-- A unit's registers and buffers after reset (R51, R300): the buffers hold unspecified bytes, none written yet. `CMDLATCH` is
unspecified and unread while `BUSY` = 0: DESIGN CHOICE 0 (notes/assumptions/10.md). -/
def Shell.reset : Shell :=
  { busy := false, done := false, err := false, errcode := 0, ie := false, ilen := 0, olen := 0,
    ibuf := [], obuf := [], cmdlatch := 0 }

/-- The `BC` unit after reset (R51): unkeyed. -/
def BcUnit.reset : BcUnit := { key := none, shell := Shell.reset }

/-- The `QR` unit after reset (R51): unkeyed. -/
def QrUnit.reset : QrUnit := { key := none, shell := Shell.reset, found := none }

/-- The machine right after reset (R51, R300), in the default configuration (R7), with no host action, entropy answer or schedule
placed yet: the MODEL's own fields are at DESIGN CHOICE values (notes/assumptions/11.md). -/
def State.reset : State :=
  { bc := BcUnit.reset, qr := QrUnit.reset, entropy := { answers := [], given := 0 }, script := [], replies := [],
    schedule := [], turns := 0, busyReads := 0, resets := 0, params := Params.default }

end Sys2Proof.Machine
end

