-- ==== Sys2Proof/Machine/Ops.lean ====
section
/-! DEFINITION. The named operations over buffers, units and commands: reading and writing bytes, starting a command, and the
two ways a command completes (spec/20_memory.md, spec/30_encoding.md R104, R105, spec/60_exceptions.md R260, R262, R273). -/

namespace Sys2Proof.Machine

/-! ## Buffers -/

/-- The canonical form of a buffer: indices strictly rising. -/
abbrev Memory.wf (m : Memory) : Prop := m.Pairwise (fun x y => x.1 < y.1)

/-- The byte written at index `i`, if any. -/
def Memory.find : Memory → Nat → Option Byte
  | [], _ => none
  | c :: m, i => if c.1 = i then some c.2 else Memory.find m i

/-- Store one byte, keeping the canonical form. -/
def Memory.set : Memory → Nat → Byte → Memory
  | [], i, v => [(i, v)]
  | c :: m, i, v =>
    if i < c.1 then (i, v) :: c :: m
    else if i = c.1 then (i, v) :: m
    else c :: Memory.set m i v

/-- `MemWrite(buf, i, len(v), v)`: store `v[0]` at `i`, `v[1]` at `i+1`, and so on (R75). -/
def Memory.write : Memory → Nat → List Byte → Memory
  | m, _, [] => m
  | m, i, v :: vs => Memory.write (Memory.set m i v) (i + 1) vs

/-! ## Units -/

/-- The registers and buffers of unit `u`. -/
def State.shell (s : State) : UnitId → Shell
  | .bc => s.bc.shell
  | .qr => s.qr.shell

/-- Replace the registers and buffers of unit `u`. -/
def State.setShell (s : State) (u : UnitId) (sh : Shell) : State :=
  match u with
  | .bc => { s with bc := { s.bc with shell := sh } }
  | .qr => { s with qr := { s.qr with shell := sh } }

/-- `U.KEYED`: 1 exactly when the unit holds a key (R24, R45). -/
def State.keyed (s : State) : UnitId → Bool
  | .bc => s.bc.key.isSome
  | .qr => s.qr.key.isSome

/-- The cells of a buffer. -/
def Shell.buffer (sh : Shell) : BufferId → Memory
  | .ibuf => sh.ibuf
  | .obuf => sh.obuf

/-- Byte `i` of a buffer: the byte last written there since reset, else the unspecified byte it holds since reset
(R34, R35, R302). Reading has no side effect (R81). -/
def State.bufByte (s : State) (u : UnitId) (b : BufferId) (i : Nat) : Byte :=
  (Memory.find ((s.shell u).buffer b) i).getD (Config.resetByte s.resets u b i)

/-! ## Starting a command -/

/-- What the start step does to a unit's registers (R104): the word is latched, `BUSY` rises, `DONE`, `ERR` and `ERRCODE` are
cleared, nothing else changes. -/
def Shell.start (sh : Shell) (w : Word) : Shell :=
  { sh with cmdlatch := w, busy := true, done := false, err := false, errcode := 0 }

/-- The start step of unit `u` (R104). A `QR` search left over is dropped: it belongs to no command (the MODEL's own field). -/
def State.start (s : State) (u : UnitId) (w : Word) : State :=
  match u with
  | .bc => { s with bc := { s.bc with shell := s.bc.shell.start w } }
  | .qr => { s with qr := { s.qr with shell := s.qr.shell.start w, found := none } }

/-! ## Completing a command -/

/-- The faults of a command (R260). -/
inductive CmdFault where
  | invalidKey
  | messageTooLarge
  | decryptionAmbiguous
  | invalidPadding
  | invalidLength
  | notKeyed
  | illegalCommand
  | invalidKeySize
  | alreadyKeyed
deriving DecidableEq, Repr

/-- The fault codes of `ERRCODE[7:0]` (R260). -/
def CmdFault.code : CmdFault → Byte
  | .invalidKey => 1
  | .messageTooLarge => 2
  | .decryptionAmbiguous => 3
  | .invalidPadding => 4
  | .invalidLength => 5
  | .notKeyed => 6
  | .illegalCommand => 7
  | .invalidKeySize => 8
  | .alreadyKeyed => 9

/-- What a command's rule gives (R105): a fault, or the new key state (`none` when the unit ends unkeyed) and the result bytes. -/
abbrev CmdResult (κ : Type) := Except CmdFault (Option κ × List Byte)

/-- The success branch of the `complete` step (R105): the result goes to `OBUF` from index 0 and its length to `OLEN`; bytes
beyond it keep their values (R35). -/
def Shell.succeed (sh : Shell) (out : List Byte) : Shell :=
  { sh with
    obuf := Memory.write sh.obuf 0 out, olen := BitVec.ofNat 32 out.length, err := false, errcode := 0,
    busy := false, done := true }

/-- `raise e` (R262): taking a fault. There is no trap, no saved state and no vector (R272): the fault is reported in `ERR` and
`ERRCODE`, `OLEN` becomes 0, the unit is ready at once, and everything else keeps its value. -/
def Shell.raise (sh : Shell) (e : CmdFault) : Shell :=
  { sh with olen := 0, err := true, errcode := e.code, busy := false, done := true }

/-- The host's acknowledge, the analogue of a return (R273): `DONE` is cleared, `ERR` and `ERRCODE` stay. -/
def Shell.acknowledge (sh : Shell) : Shell := { sh with done := false }

/-- The `complete` step of a `BC` command with result `r` (R105). -/
def State.finishBc (s : State) (r : CmdResult BcKey) : State :=
  match r with
  | .ok (key, out) => { s with bc := { key := key, shell := s.bc.shell.succeed out } }
  | .error e => { s with bc := { s.bc with shell := s.bc.shell.raise e } }

/-- The `complete` step of a `QR` command with result `r` (R105). No search outlives its command. -/
def State.finishQr (s : State) (r : CmdResult QrKey) : State :=
  match r with
  | .ok (key, out) => { s with qr := { key := key, shell := s.qr.shell.succeed out, found := none } }
  | .error e => { s with qr := { s.qr with shell := s.qr.shell.raise e, found := none } }

/-- A unit's `complete` step for a latched word that is no command of it: `IllegalCommand` and no other effect (R106, R267). -/
def State.finishIllegal (s : State) (u : UnitId) : State :=
  match u with
  | .bc => s.finishBc (.error .illegalCommand)
  | .qr => s.finishQr (.error .illegalCommand)

/-! ## Reset -/

/-- The reset input (R300, R301): both units take the state of R51 whatever they were doing; the buffers hold new unspecified
bytes. What lies outside the units is not reset. -/
def State.assertReset (s : State) : State :=
  { s with bc := BcUnit.reset, qr := QrUnit.reset, resets := s.resets + 1 }

end Sys2Proof.Machine
end

