-- ==== Sys2Proof/Machine/Operands.lean ====
section
/-! DEFINITION. The operand of a command, the bytes `IBUF[0..ILEN)`, and the byte order of words and blocks
(spec/00_scope.md R8, R9, spec/20_memory.md R74, R76, spec/30_encoding.md R102). -/

namespace Sys2Proof.Machine

/-- `MemRead(U.IBUF, 0, n)` (R74). -/
def State.inputBytes (s : State) (u : UnitId) (n : Nat) : List Byte :=
  (List.range n).map (s.bufByte u .ibuf)

/-- The operand of a command: `MemRead(U.IBUF, 0, U.ILEN)` (R102). -/
def State.operand (s : State) (u : UnitId) : List Byte := s.inputBytes u (s.shell u).ilen.toNat

/-- The word of four bytes, the first in bits 31:24 (`BE32` of R9, R76). -/
def beWord (a b c d : Byte) : Word := a ++ b ++ c ++ d

/-- `bytes32(w)`: the four bytes of a word, most significant first (R9). -/
def bytes32 (w : Word) : List Byte :=
  [w.extractLsb' 24 8, w.extractLsb' 16 8, w.extractLsb' 8 8, w.extractLsb' 0 8]

/-- Re-serialise the two halves of a block (R76). -/
def blockBytes (lr : Word × Word) : List Byte := bytes32 lr.1 ++ bytes32 lr.2

/-- Apply a block function to each 8-byte block of a byte sequence, in order; the halves are big-endian words (R76). Bytes after
the last whole block are not taken; the commands only use it on whole blocks (R80). -/
def mapBlocks (f : Word → Word → Word × Word) : List Byte → List Byte
  | a :: b :: c :: d :: e :: g :: h :: i :: rest =>
    blockBytes (f (beWord a b c d) (beWord e g h i)) ++ mapBlocks f rest
  | _ => []

end Sys2Proof.Machine
end

