-- ==== Sys2Proof/Machine/BcCipher.lean ====
section
/-! DEFINITION. The functions every `BC` command is built from: the F-function, block encryption and decryption, the key
schedule, padding (spec/40_bc_block.md R130 to R133, spec/41_bc_keyschedule.md R150, R151, spec/42_bc_message.md R170, R171). -/

namespace Sys2Proof.Machine

/-- `F(S, x)` (R131): add, then XOR, then add; each index is a byte, so no lookup is out of range (R89). -/
def feistelF (S : Vector (Vector Word 256) 4) (x : Word) : Word :=
  let a : Byte := x.extractLsb' 24 8
  let b : Byte := x.extractLsb' 16 8
  let c : Byte := x.extractLsb' 8 8
  let d : Byte := x.extractLsb' 0 8
  add32 (add32 (S[0][a.toNat]'a.isLt) (S[1][b.toNat]'b.isLt) ^^^ (S[2][c.toNat]'c.isLt)) (S[3][d.toNat]'d.isLt)

/-- One round (R132): XOR the subkey into `L`, XOR `F` of the new `L` into `R`, swap. -/
def feistelRound (S : Vector (Vector Word 256) 4) (lr : Word × Word) (k : Word) : Word × Word :=
  (lr.2 ^^^ feistelF S (lr.1 ^^^ k), lr.1 ^^^ k)

/-- Sixteen rounds with the given subkeys in order, then the undo of the last swap (R132, R133). -/
def feistelRounds (S : Vector (Vector Word 256) 4) (ks : List Word) (l r : Word) : Word × Word :=
  (ks.foldl (feistelRound S) (l, r)).swap

/-- The subkeys of encryption in order of use: `P[0]` to `P[15]` (R132). -/
def encryptKeys (P : Vector Word 18) : List Word :=
  (List.finRange Config.rounds).map fun i => P[i.val]'(Nat.lt_trans i.isLt (by decide))

/-- The subkeys of decryption in order of use: `P[17]` down to `P[2]` (R133). -/
def decryptKeys (P : Vector Word 18) : List Word :=
  (List.finRange Config.rounds).map fun i => P[17 - i.val]'(by omega)

/-- `EncryptBlock(P, S, L, R)` (R132). -/
def encryptBlock (P : Vector Word 18) (S : Vector (Vector Word 256) 4) (l r : Word) : Word × Word :=
  let lr := feistelRounds S (encryptKeys P) l r
  (lr.1 ^^^ P[17], lr.2 ^^^ P[16])

/-- `DecryptBlock(P, S, L, R)` (R133). -/
def decryptBlock (P : Vector Word 18) (S : Vector (Vector Word 256) 4) (l r : Word) : Word × Word :=
  let lr := feistelRounds S (decryptKeys P) l r
  (lr.1 ^^^ P[0], lr.2 ^^^ P[1])

/-! ## Key schedule -/

/-- The key byte at a running index: the key is repeated cyclically (R150). -/
def keyByte (key : List Byte) (j : Nat) : Byte := key.getD (j % key.length) 0

/-- The chunk of subkey `i`: key bytes `4i` to `4i+3`, each index reduced modulo the key's length, big-endian (R150). -/
def keyChunk (key : List Byte) (i : Nat) : Word :=
  beWord (keyByte key (4 * i)) (keyByte key (4 * i + 1)) (keyByte key (4 * i + 2)) (keyByte key (4 * i + 3))

/-- `KeyXor(P, key)` (R150). -/
def keyXor (P : Vector Word 18) (key : List Byte) : Vector Word 18 :=
  Vector.ofFn fun i => P[i] ^^^ keyChunk key i.val

/-- The mutable state of the schedule's step 3: the key material and the running pair (R22, R151). -/
structure Schedule where
  P : Vector Word 18
  S : Vector (Vector Word 256) 4
  l : Word
  r : Word

/-- Encrypt the running pair with `P` and `S` as they are now, then overwrite the subkeys `2i` and `2i+1` (R151). -/
def Schedule.subkeyStep (st : Schedule) (i : Fin 9) : Schedule :=
  let lr := encryptBlock st.P st.S st.l st.r
  { P := (st.P.set (2 * i.val) lr.1 (by omega)).set (2 * i.val + 1) lr.2 (by omega), S := st.S, l := lr.1, r := lr.2 }

/-- Encrypt the running pair, then overwrite entries `2i` and `2i+1` of table `t` (R151). -/
def Schedule.tableStep (t : Fin 4) (st : Schedule) (i : Fin 128) : Schedule :=
  let lr := encryptBlock st.P st.S st.l st.r
  let row := (st.S[t].set (2 * i.val) lr.1 (by omega)).set (2 * i.val + 1) lr.2 (by omega)
  { P := st.P, S := st.S.set t.val row, l := lr.1, r := lr.2 }

/-- `KeySchedule(key)` with the initial constants `piP`, `piS` (R151): load them, XOR the key in, then 521 block encryptions
in order, all 18 subkeys first and then each table in turn. -/
def keyScheduleFrom (piP : Vector Word 18) (piS : Vector (Vector Word 256) 4) (key : List Byte) : BcKey :=
  let st0 : Schedule := { P := keyXor piP key, S := piS, l := 0, r := 0 }
  let st1 := (List.finRange 9).foldl Schedule.subkeyStep st0
  let st2 := (List.finRange 4).foldl (fun st t => (List.finRange 128).foldl (Schedule.tableStep t) st) st1
  { P := st2.P, S := st2.S }

/-- `KeySchedule(key)` with the constants of the configuration (R50, R60, R151). -/
def keySchedule (p : Params) (key : List Byte) : BcKey := keyScheduleFrom p.subkeys p.tables key

/-! ## Blocks and padding -/

/-- `EncryptBlock` under a key state. -/
def BcKey.encrypt (k : BcKey) (l r : Word) : Word × Word := encryptBlock k.P k.S l r

/-- `DecryptBlock` under a key state. -/
def BcKey.decrypt (k : BcKey) (l r : Word) : Word × Word := decryptBlock k.P k.S l r

/-- `Pad(m)` (R170): N bytes each of value N, with N = 8 - (n mod 8). -/
def pad (m : List Byte) : List Byte :=
  m ++ List.replicate (8 - m.length % 8) (BitVec.ofNat 8 (8 - m.length % 8))

/-- `Unpad(x)` (R171): the last byte N must be 1 to 8 and the last N bytes must all be N; they are removed. -/
def unpad (x : List Byte) : Except CmdFault (List Byte) :=
  let n := (x.getLastD 0).toNat
  if n < 1 ∨ 8 < n then .error .invalidPadding
  else if (x.drop (x.length - n)).all (fun v => v.toNat == n) then .ok (x.take (x.length - n))
  else .error .invalidPadding

end Sys2Proof.Machine
end

