-- ==== Sys2Proof/Machine/BcBlock.lean ====
section
/-! DEFINITION. The meanings of `BC.ENCB` and `BC.DECB` (spec/40_bc_block.md R135, R136). -/

namespace Sys2Proof.Machine

/-- The rule both one-block commands share (R135, R136): the unit must be keyed and `ILEN` exactly 8; the 8 bytes go through the
block function `f` of the key, without padding. -/
def oneBlockRule (f : BcKey → Word → Word → Word × Word) (s : State) : CmdResult BcKey :=
  match s.bc.key with
  | none => .error .notKeyed
  | some k =>
    if s.bc.shell.ilen = 8 then .ok (some k, mapBlocks (f k) (s.operand .bc))
    else .error .invalidLength

/-- `BC.ENCB` (R135). -/
def execBcEncb (s : State) : Host.Outcome State Fault Refusal := .next (s.finishBc (oneBlockRule BcKey.encrypt s))

/-- `BC.DECB` (R136). -/
def execBcDecb (s : State) : Host.Outcome State Fault Refusal := .next (s.finishBc (oneBlockRule BcKey.decrypt s))

end Sys2Proof.Machine
end

