-- ==== Sys2Proof/Machine/BcKeys.lean ====
section
/-! DEFINITION. The meanings of `BC.INIT` and `BC.CLEAR` (spec/41_bc_keyschedule.md R152, R155). -/

namespace Sys2Proof.Machine

/-- The rule of `BC.INIT` (R152): checks in the order of R268, then the schedule of the key in `IBUF`. -/
def bcInitRule (s : State) : CmdResult BcKey :=
  match s.bc.key with
  | some _ => .error .alreadyKeyed
  | none =>
    if s.bc.shell.ilen = 0 then .error .invalidKey
    else if s.params.bcBuf < s.bc.shell.ilen.toNat then .error .invalidLength
    else .ok (some (keySchedule s.params (s.operand .bc)), [])

/-- `BC.INIT` (R152). -/
def execBcInit (s : State) : Host.Outcome State Fault Refusal := .next (s.finishBc (bcInitRule s))

/-- `BC.CLEAR` (R155): the key state has no value afterwards; it succeeds on every state and erases no buffer. -/
def execBcClear (s : State) : Host.Outcome State Fault Refusal := .next (s.finishBc (.ok (none, [])))

end Sys2Proof.Machine
end

