-- ==== Sys2Proof/Machine/BcMessage.lean ====
section
/-! DEFINITION. The meanings of `BC.ENC` and `BC.DEC` (spec/42_bc_message.md R172, R174). -/

namespace Sys2Proof.Machine

/-- The rule of `BC.ENC` (R172): the padded text must fit `OBUF`; blocks are independent (R173). -/
def bcEncRule (s : State) : CmdResult BcKey :=
  match s.bc.key with
  | none => .error .notKeyed
  | some k =>
    if s.params.bcBuf - 1 < s.bc.shell.ilen.toNat then .error .invalidLength
    else .ok (some k, mapBlocks k.encrypt (pad (s.operand .bc)))

/-- `BC.ENC` (R172). -/
def execBcEnc (s : State) : Host.Outcome State Fault Refusal := .next (s.finishBc (bcEncRule s))

/-- The rule of `BC.DEC` (R174): `ILEN` a positive multiple of 8 within the buffer; the padding is examined after all blocks are
processed, and a malformed one leaves no output. -/
def bcDecRule (s : State) : CmdResult BcKey :=
  match s.bc.key with
  | none => .error .notKeyed
  | some k =>
    if s.bc.shell.ilen = 0 ∨ s.bc.shell.ilen.toNat % 8 ≠ 0 ∨ s.params.bcBuf < s.bc.shell.ilen.toNat then .error .invalidLength
    else
      match unpad (mapBlocks k.decrypt (s.operand .bc)) with
      | .error e => .error e
      | .ok out => .ok (some k, out)

/-- `BC.DEC` (R174). -/
def execBcDec (s : State) : Host.Outcome State Fault Refusal := .next (s.finishBc (bcDecRule s))

end Sys2Proof.Machine
end

