-- ==== Sys2Proof/Machine/QrArith.lean ====
section
/-! DEFINITION. The integer functions of the `QR` commands (spec/43_qr_arith.md R190 to R198): bytes and integers, modular
exponentiation, the extended Euclidean algorithm, the checksum. Integers have no width (R190). -/

namespace Sys2Proof.Machine

/-- `bitlen(x)`: the number of bits of x, 0 for 0 (R10). -/
def bitlen (x : Nat) : Nat := if x = 0 then 0 else Nat.log2 x + 1

/-- `OS2IP(b)`: the big-endian value of a byte sequence (R191). -/
def os2ip (b : List Byte) : Nat := b.foldl (fun acc v => acc * 256 + v.toNat) 0

/-- The `len` low bytes of x, big-endian. -/
def beBytes : Nat → Nat → List Byte
  | 0, _ => []
  | len + 1, x => beBytes len (x / 256) ++ [BitVec.ofNat 8 x]

/-- `I2OSP(x)` with `QR_ZERO_LEN` = `zeroLen`: `ceil(bitlen(x)/8)` bytes, the first not 0, for x ≥ 1, and `zeroLen` zero bytes
for 0 (R192). -/
def i2osp (zeroLen x : Nat) : List Byte :=
  if x = 0 then List.replicate zeroLen 0 else beBytes ((bitlen x + 7) / 8) x

/-- Square and multiply over at most `fuel` bits of the exponent, `acc` times `b^e` modulo m. -/
def modExpLoop : Nat → Nat → Nat → Nat → Nat → Nat
  | 0, _, _, _, acc => acc
  | fuel + 1, b, e, m, acc =>
    if e = 0 then acc
    else modExpLoop fuel (b * b % m) (e / 2) m (if e % 2 = 1 then acc * b % m else acc)

/-- `ModExp(b, e, m)` (R194): `b^e mod m`. Square and multiply, so that it can be evaluated; the method is not observable. -/
def modExp (b e m : Nat) : Nat := modExpLoop (bitlen e) (b % m) e m (1 % m)

/-- The recursion of R195, cut after `fuel` calls. -/
def egcdLoop : Nat → Nat → Nat → Nat × Int × Int
  | 0, _, b => (b, 0, 1)
  | fuel + 1, a, b =>
    if a = 0 then (b, 0, 1)
    else
      let r := egcdLoop fuel (b % a) a
      (r.1, r.2.2 - (b / a : Nat) * r.2.1, r.2.1)

/-- `EGCD(a, b)` = (g, x, y) (R195). The first argument falls at each call, so a + 1 calls are enough. -/
def egcd (a b : Nat) : Nat × Int × Int := egcdLoop (a + 1) a b

/-- `sum8(b)`: the sum of the bytes modulo 256 (R9, R196). -/
def sum8 (b : List Byte) : Byte := b.foldl (· + ·) 0

/-- `EncodeMessage(msg)` = `OS2IP([sum8(msg)] ‖ msg)` (R196). -/
def encodeMessage (msg : List Byte) : Nat := os2ip (sum8 msg :: msg)

/-- `CheckCandidate(b)` (R196): the first byte is the checksum of the rest. False for fewer than 2 bytes: such a candidate cannot
be accepted (R245). -/
def checkCandidate : List Byte → Bool
  | [] => false
  | [_] => false
  | c :: v :: msg => decide (c = sum8 (v :: msg))

end Sys2Proof.Machine
end

