-- ==== Sys2Proof/Machine/QrCrypt.lean ====
section
/-! DEFINITION. The square-root extractor and the meanings of `QR.ENC` and `QR.DEC` (spec/45_qr_encdec.md R241, R244, R245). -/

namespace Sys2Proof.Machine

/-- The rule of `QR.ENC` (R241): only `n` is read; a message that does not fit is rejected before squaring. -/
def qrEncRule (s : State) : CmdResult QrKey :=
  match s.qr.key with
  | none => .error .notKeyed
  | some k =>
    if s.params.qrBuf < s.qr.shell.ilen.toNat then .error .invalidLength
    else
      let m := encodeMessage (s.operand .qr)
      if k.n ≤ m then .error .messageTooLarge else .ok (some k, i2osp s.params.qrZeroLen (m * m % k.n))

/-- `QR.ENC` (R241). -/
def execQrEnc (s : State) : Host.Outcome State Fault Refusal := .next (s.finishQr (qrEncRule s))

/-- `u = (yp * p * mq) mod n` of R244, where `mq = ModExp(c, (q+1) div 4, q)`; the remainder is never negative (R193). -/
def rootU (p q c : Nat) : Nat :=
  (((egcd p q).2.1 * p * modExp c ((q + 1) / 4) q) % ((p * q : Nat) : Int)).toNat

/-- `v = (yq * q * mp) mod n` of R244, where `mp = ModExp(c, (p+1) div 4, p)`. -/
def rootV (p q c : Nat) : Nat :=
  (((egcd p q).2.2 * q * modExp c ((p + 1) / 4) p) % ((p * q : Nat) : Int)).toNat

/-- `r1 = (u + v) mod n` (R244). -/
def root1 (p q c : Nat) : Nat := (rootU p q c + rootV p q c) % (p * q)

/-- `r2 = (u - v) mod n`, not negative (R193, R244). -/
def root2 (p q c : Nat) : Nat := (((rootU p q c : Int) - rootV p q c) % ((p * q : Nat) : Int)).toNat

/-- `Roots(p, q, c)` (R244): the four candidates r1, r2, r3 = n - r1, r4 = n - r2, in order; r3 and r4 are not reduced. -/
def roots (p q c : Nat) : List Nat :=
  [root1 p q c, root2 p q c, p * q - root1 p q c, p * q - root2 p q c]

/-- The scan of R245, with `QR_ZERO_LEN` = `zeroLen`: the first candidate of at least 2 bytes whose checksum matches gives the message, and the scan stops. -/
def firstMessage (zeroLen : Nat) (rs : List Nat) : Option (List Byte) :=
  ((rs.map (i2osp zeroLen)).find? checkCandidate).map List.tail

/-- The rule of `QR.DEC` (R245): any ciphertext that fits the buffer is taken, without a range or residue check. -/
def qrDecRule (s : State) : CmdResult QrKey :=
  match s.qr.key with
  | none => .error .notKeyed
  | some k =>
    if s.params.qrBuf < s.qr.shell.ilen.toNat then .error .invalidLength
    else
      match firstMessage s.params.qrZeroLen (roots k.p k.q (os2ip (s.operand .qr))) with
      | none => .error .decryptionAmbiguous
      | some msg => .ok (some k, msg)

/-- `QR.DEC` (R245). -/
def execQrDec (s : State) : Host.Outcome State Fault Refusal := .next (s.finishQr (qrDecRule s))

end Sys2Proof.Machine
end

