-- ==== Sys2Proof/Machine/QrKeys.lean ====
section
/-! DEFINITION. The meanings of `QR.GETN`, `QR.GETP`, `QR.GETQ` and `QR.CLEAR` (spec/44_qr_prime_keygen.md R216 to R219). -/

namespace Sys2Proof.Machine

/-- The rule the read-outs share (R216): the unit must be keyed; the chosen integer is serialised. -/
def readKeyRule (f : QrKey → Nat) (s : State) : CmdResult QrKey :=
  match s.qr.key with
  | none => .error .notKeyed
  | some k => .ok (some k, i2osp s.params.qrZeroLen (f k))

/-- `QR.GETN` (R216). -/
def execQrGetn (s : State) : Host.Outcome State Fault Refusal := .next (s.finishQr (readKeyRule QrKey.n s))

/-- `QR.GETP` (R217). -/
def execQrGetp (s : State) : Host.Outcome State Fault Refusal := .next (s.finishQr (readKeyRule QrKey.p s))

/-- `QR.GETQ` (R218). -/
def execQrGetq (s : State) : Host.Outcome State Fault Refusal := .next (s.finishQr (readKeyRule QrKey.q s))

/-- `QR.CLEAR` (R219): the key integers have no value afterwards; it succeeds on every state and erases no buffer. -/
def execQrClear (s : State) : Host.Outcome State Fault Refusal := .next (s.finishQr (.ok (none, [])))

end Sys2Proof.Machine
end

