-- ==== Sys2Proof/Machine/QrPrime.lean ====
section
/-! DEFINITION. Draws, the Miller–Rabin test, and the meanings of `QR.ISPRIME` and `QR.KEYGEN` (spec/00_scope.md R12,
spec/44_qr_prime_keygen.md R210 to R215, spec/70_reset_and_hazards.md R306). -/

namespace Sys2Proof.Machine

/-! ## Draws -/

/-- The entropy source's next answer: the oldest listed one, else a free one (R12, R47; notes/assumptions/6.md). -/
def Entropy.answer (e : Entropy) : Nat :=
  match e.answers with
  | [] => Config.entropyAnswer e.given
  | a :: _ => a

/-- The entropy source after one more answer. -/
def Entropy.advance (e : Entropy) : Entropy := { answers := e.answers.tail, given := e.given + 1 }

/-- An answer brought into lo..hi: itself when it lies there, else reduced into the range, so that a draw always obeys R12 and
every value of the range can be drawn (notes/assumptions/6.md). -/
def inRange (lo hi a : Nat) : Nat := if lo ≤ a ∧ a ≤ hi then a else lo + a % (hi - lo + 1)

/-- An answer brought to a number of b bits that is 3 modulo 4 (R12): itself when it is one, else one made from it. -/
def inCandidates (b a : Nat) : Nat :=
  if bitlen a = b ∧ a % 4 = 3 then a
  else if b ≤ 2 then 3
  else 2 ^ (b - 1) + 4 * (a % 2 ^ (b - 3)) + 3

/-- `Draw(lo, hi)` (R12). -/
def Entropy.draw (e : Entropy) (lo hi : Nat) : Nat × Entropy := (inRange lo hi e.answer, e.advance)

/-- `DrawCandidate(b)` (R12). -/
def Entropy.drawCandidate (e : Entropy) (b : Nat) : Nat × Entropy := (inCandidates b e.answer, e.advance)

/-! ## Miller–Rabin -/

/-- Halve `d` while it is even, at most `fuel` times, counting in `r`. -/
def decomposeLoop : Nat → Nat → Nat → Nat × Nat
  | 0, d, r => (d, r)
  | fuel + 1, d, r => if d % 2 = 0 then decomposeLoop fuel (d / 2) (r + 1) else (d, r)

/-- `Decompose(n)` = (d, r) with n - 1 = d * 2^r and d odd (R210). -/
def decompose (n : Nat) : Nat × Nat := decomposeLoop (bitlen n) (n - 1) 0

/-- Square x up to `count` times looking for n - 1 (R211). -/
def squareLoop : Nat → Nat → Nat → Bool
  | 0, _, _ => false
  | count + 1, n, x => if x * x % n = n - 1 then true else squareLoop count n (x * x % n)

/-- `BasePasses(n, d, r, a)` (R211). -/
def basePasses (n d r a : Nat) : Bool :=
  if modExp a d n = 1 ∨ modExp a d n = n - 1 then true else squareLoop (r - 1) n (modExp a d n)

/-- Test n = d * 2^r + 1 against `k` drawn bases, stopping at the first that fails (R212). -/
def testBases (n d r : Nat) : Nat → Entropy → Bool × Entropy
  | 0, e => (true, e)
  | k + 1, e =>
    if basePasses n d r (e.draw 2 (n - 2)).1 then testBases n d r k (e.draw 2 (n - 2)).2
    else (false, (e.draw 2 (n - 2)).2)

/-- `IsProbablyPrime(n, k)` (R212), with the entropy source after its draws. -/
def isProbablyPrime (n k : Nat) (e : Entropy) : Bool × Entropy :=
  if n ≤ 1 then (false, e)
  else if n ≤ 3 then (true, e)
  else if n % 2 = 0 then (false, e)
  else testBases n (decompose n).1 (decompose n).2 k e

/-! ## `QR.ISPRIME` -/

/-- The number of bases: 0 selects `MR_ROUNDS` (R102, R213). -/
def baseCount (k : Nat) : Nat := if k = 0 then Config.mrRounds else k

/-- The rule of `QR.ISPRIME k` (R213): the key state is neither read nor changed. -/
def isprimeRule (k : Nat) (s : State) : CmdResult QrKey × Entropy :=
  if s.params.qrBuf < s.qr.shell.ilen.toNat then (.error .invalidLength, s.entropy)
  else
    let t := isProbablyPrime (os2ip (s.operand .qr)) (baseCount k) s.entropy
    (.ok (s.qr.key, [if t.1 then 0x01 else 0x00]), t.2)

/-- `QR.ISPRIME k` (R213). -/
def execQrIsprime (k : Nat) (s : State) : Host.Outcome State Fault Refusal :=
  .next ({ s with entropy := (isprimeRule k s).2 }.finishQr (isprimeRule k s).1)

/-! ## `QR.KEYGEN` -/

/-- Where the search for the two primes stands: both found, or still searching. -/
inductive Search where
  | done (p q : Nat) (e : Entropy)
  | running (found : Option Nat) (e : Entropy)
deriving DecidableEq, Repr

/-- At most `tries` iterations of the loops of `GenPrime(b)`, first for `p`, then for `q` (R214, R215): draw a candidate, test it
with `MR_ROUNDS` bases, forget it when it fails. `found` is `p` once it is accepted. -/
def searchPrimes (b : Nat) : Nat → Option Nat → Entropy → Search
  | 0, found, e => .running found e
  | tries + 1, found, e =>
    let c := (e.drawCandidate b).1
    let t := isProbablyPrime c Config.mrRounds (e.drawCandidate b).2
    if t.1 then
      match found with
      | none => searchPrimes b tries (some c) t.2
      | some p => .done p c t.2
    else searchPrimes b tries found t.2

/-- Whether `kbits` is no legal key size: odd, below `QR_KMIN` or above `QR_KMAX` (R214, R260). -/
def badKeySize (p : Params) (kbits : Nat) : Bool :=
  decide (kbits % 2 ≠ 0 ∨ kbits < Config.qrKmin ∨ p.qrKmax < kbits)

/-- How many candidates one step of the unit may try: enough to use every listed answer, and one more. The spec bounds neither
the number of tries nor the time (R306); a step that ends without both primes leaves the unit busy and the next one goes on
(notes/assumptions/9.md). -/
def Entropy.tries (e : Entropy) : Nat := e.answers.length + 1

/-- `QR.KEYGEN kbits` (R214): faults are decided before the first draw (R261); then `p`, then `q`, and `n = p*q`; there is no
check that `p ≠ q`. -/
def keygenStep (kbits : Nat) (s : State) : State :=
  match s.qr.key with
  | some _ => s.finishQr (.error .alreadyKeyed)
  | none =>
    if badKeySize s.params kbits then s.finishQr (.error .invalidKeySize)
    else
      match searchPrimes (kbits / 2) s.entropy.tries s.qr.found s.entropy with
      | .done p q e => { s with entropy := e }.finishQr (.ok (some { p := p, q := q, n := p * q }, []))
      | .running found e => { s with entropy := e, qr := { s.qr with found := found } }

/-- `QR.KEYGEN kbits` (R214). -/
def execQrKeygen (kbits : Nat) (s : State) : Host.Outcome State Fault Refusal := .next (keygenStep kbits s)

end Sys2Proof.Machine
end

