-- ==== Sys2Proof/Machine/Dispatch.lean ====
section
/-! DEFINITION. What each command does when its unit completes it (spec/30_encoding.md R105), one arm for each row of the opcode table. -/

namespace Sys2Proof.Machine

def exec (i : Instr) (s : State) : Host.Outcome State Fault Refusal :=
  match i with
  | .bcInit => Sys2Proof.Machine.execBcInit s
  | .bcEncb => Sys2Proof.Machine.execBcEncb s
  | .bcDecb => Sys2Proof.Machine.execBcDecb s
  | .bcEnc => Sys2Proof.Machine.execBcEnc s
  | .bcDec => Sys2Proof.Machine.execBcDec s
  | .bcClear => Sys2Proof.Machine.execBcClear s
  | .qrKeygen kbits => Sys2Proof.Machine.execQrKeygen kbits s
  | .qrIsprime k => Sys2Proof.Machine.execQrIsprime k s
  | .qrEnc => Sys2Proof.Machine.execQrEnc s
  | .qrDec => Sys2Proof.Machine.execQrDec s
  | .qrGetn => Sys2Proof.Machine.execQrGetn s
  | .qrGetp => Sys2Proof.Machine.execQrGetp s
  | .qrGetq => Sys2Proof.Machine.execQrGetq s
  | .qrClear => Sys2Proof.Machine.execQrClear s

end Sys2Proof.Machine
end

