-- ==== Sys2Proof/Machine/Flags.lean ====
section
/-! DEFINITION. The words the host reads from the flags and the interrupt lines (spec/10_state.md R29 to R31, R48,
spec/60_exceptions.md R270). The hardware has no arithmetic flags (R48). -/

namespace Sys2Proof.Machine

/-- `U.STATUS` (R29): `BUSY`, `DONE`, `ERR`, `KEYED` in bits 0 to 3, the rest 0. -/
def State.statusWord (s : State) (u : UnitId) : Word :=
  (BitVec.ofBool (s.keyed u) ++ BitVec.ofBool (s.shell u).err ++ BitVec.ofBool (s.shell u).done ++
    BitVec.ofBool (s.shell u).busy).setWidth 32

/-- `U.ERRCODE` (R30): the code in bits 7:0, the rest 0. -/
def State.errcodeWord (s : State) (u : UnitId) : Word := (s.shell u).errcode.setWidth 32

/-- `U.CTRL` (R31): `IE` in bit 0, the rest 0. -/
def State.ctrlWord (s : State) (u : UnitId) : Word := (BitVec.ofBool (s.shell u).ie).setWidth 32

/-- `U.irq` = `U.CTRL.IE` AND `U.STATUS.DONE`, at every moment (R270). -/
def State.irq (s : State) (u : UnitId) : Bool := (s.shell u).ie && (s.shell u).done

end Sys2Proof.Machine
end

