-- ==== Sys2Proof/Machine/HostBus.lean ====
section
/-! DEFINITION. The register window of a unit and the host's accesses to it (spec/20_memory.md R70, R71, R79, R81,
spec/10_state.md R28 to R37, spec/70_reset_and_hazards.md R310, R311). -/

namespace Sys2Proof.Machine

/-- The interface registers (R28 to R33). -/
inductive Register where
  | cmd
  | status
  | errcode
  | ctrl
  | ilen
  | olen
deriving DecidableEq, Repr

/-- A register's offset in its unit's window (R71). -/
def Register.offset : Register → BitVec 14
  | .cmd => 0x0000
  | .status => 0x0004
  | .errcode => 0x0008
  | .ctrl => 0x000C
  | .ilen => 0x0010
  | .olen => 0x0014

/-- The register at an offset of the register area, if there is one (R37, R71). -/
def registerAt (off : BitVec 14) : Option Register :=
  if off = Register.cmd.offset then some .cmd
  else if off = Register.status.offset then some .status
  else if off = Register.errcode.offset then some .errcode
  else if off = Register.ctrl.offset then some .ctrl
  else if off = Register.ilen.offset then some .ilen
  else if off = Register.olen.offset then some .olen
  else none

/-- The parts of a window (R70): registers, the two buffers, a reserved quarter. -/
inductive Region where
  | registers
  | buffer (b : BufferId) (i : Nat)
  | reserved
deriving DecidableEq, Repr

/-- The part of the window an offset lies in (R70, R72, R73). -/
def region (off : BitVec 14) : Region :=
  if off.toNat < 0x1000 then .registers
  else if off.toNat < 0x2000 then .buffer .ibuf (off.toNat - 0x1000)
  else if off.toNat < 0x3000 then .buffer .obuf (off.toNat - 0x2000)
  else .reserved

/-- The offset of byte `i` of a buffer (R72, R73). DESIGN CHOICE for an index from 0x1000 on, which no buffer window has: the offset
runs on, modulo 16 KiB, inside the unit's window (notes/assumptions/16.md). -/
def bufferOffset (b : BufferId) (i : Nat) : BitVec 14 :=
  match b with
  | .ibuf => 0x1000 + BitVec.ofNat 14 i
  | .obuf => 0x2000 + BitVec.ofNat 14 i

/-- Whether the window accepts an access of `bits` bits at an offset (R79): registers only aligned 32-bit accesses, buffers only
8-bit ones, the reserved quarter either. -/
def accepts (off : BitVec 14) (bits : Nat) : Bool :=
  match region off with
  | .registers => bits == 32 && off.toNat % 4 == 0
  | .buffer _ _ => bits == 8
  | .reserved => bits == 8 || (bits == 32 && off.toNat % 4 == 0)

/-- The value of a register on a read (R28 to R33); a reserved offset reads 0 (R37). -/
def State.registerWord (s : State) (u : UnitId) : Option Register → Word
  | some .cmd => 0
  | some .status => s.statusWord u
  | some .errcode => s.errcodeWord u
  | some .ctrl => s.ctrlWord u
  | some .ilen => (s.shell u).ilen
  | some .olen => (s.shell u).olen
  | none => 0

/-- What the window holds at an offset, as a read of an idle unit gives it (R71); unimplemented and reserved places read 0. -/
def State.windowValue (s : State) (u : UnitId) (off : BitVec 14) : Word :=
  match region off with
  | .registers => s.registerWord u (registerAt off)
  | .buffer b i => if i < s.params.bufSize u then (s.bufByte u b i).setWidth 32 else 0
  | .reserved => 0

/-- Whether an offset's read is defined while the unit is busy: `STATUS` and `CTRL` only (R29, R31, R311). -/
def readableWhileBusy (off : BitVec 14) : Bool := off == Register.status.offset || off == Register.ctrl.offset

/-- Whether a read of the offset returns an unspecified value now (R311). -/
def State.readIsFree (s : State) (u : UnitId) (off : BitVec 14) : Bool := (s.shell u).busy && !readableWhileBusy off

/-- The value a read of the offset returns now (R71, R311). -/
def State.readValue (s : State) (u : UnitId) (off : BitVec 14) : Word :=
  if s.readIsFree u off then Config.busyRead s.busyReads else s.windowValue u off

/-- The answer to a read that returns `v`: as wide as the access (R79). -/
def replyValue (bits : Nat) (v : Word) : Reply := if bits = 8 then .byte (v.setWidth 8) else .word v

/-- Note the bus's answer to an access. -/
def State.answer (s : State) (r : Reply) : State := { s with replies := r :: s.replies }

/-- A read access (R79, R81, R311): no effect on any unit. -/
def State.hostRead (s : State) (u : UnitId) (off : BitVec 14) (bits : Nat) : State :=
  if accepts off bits then
    { s with busyReads := if s.readIsFree u off then s.busyReads + 1 else s.busyReads }.answer
      (replyValue bits (s.readValue u off))
  else s.answer .hostFault

/-- The effect of a write to a register (R28 to R33, R37, R310): `CTRL` at any time; the others only while the unit is idle. A
write to `CMD` starts a command, one to `STATUS` with bit 1 set acknowledges `DONE`; `ERRCODE`, `OLEN` and the reserved
offsets ignore writes. -/
def State.writeRegister (s : State) (u : UnitId) (r : Option Register) (v : Word) : State :=
  match r with
  | some .ctrl => s.setShell u { s.shell u with ie := v.getLsbD 0 }
  | some .cmd => if (s.shell u).busy then s else s.start u v
  | some .status =>
    if (s.shell u).busy || !v.getLsbD 1 then s else s.setShell u (s.shell u).acknowledge
  | some .ilen => if (s.shell u).busy then s else s.setShell u { s.shell u with ilen := v }
  | some .errcode => s
  | some .olen => s
  | none => s

/-- The effect of a write to byte `i` of a buffer (R34, R35, R71, R310): `IBUF` only, while the unit is idle, inside the buffer. -/
def State.writeBuffer (s : State) (u : UnitId) (b : BufferId) (i : Nat) (v : Byte) : State :=
  match b with
  | .obuf => s
  | .ibuf =>
    if (s.shell u).busy || !decide (i < s.params.bufSize u) then s
    else s.setShell u { s.shell u with ibuf := Memory.set (s.shell u).ibuf i v }

/-- The effect of an accepted write on the unit (R71). -/
def State.writeEffect (s : State) (u : UnitId) (off : BitVec 14) (v : Word) : State :=
  match region off with
  | .registers => s.writeRegister u (registerAt off) v
  | .buffer b i => s.writeBuffer u b i (v.setWidth 8)
  | .reserved => s

/-- A write access (R79, R81, R310): an ignored write is still a completed access. -/
def State.hostWrite (s : State) (u : UnitId) (off : BitVec 14) (bits : Nat) (v : Word) : State :=
  if accepts off bits then (s.writeEffect u off v).answer .written else s.answer .hostFault

/-- The window and offset a bus address selects (R70, R83); none where it lies in neither window. -/
def selectWindow (p : Params) (addr : Nat) : Option (UnitId × BitVec 14) :=
  if p.baseBc ≤ addr ∧ addr < p.baseBc + Config.windowBytes then some (.bc, BitVec.ofNat 14 (addr - p.baseBc))
  else if p.baseQr ≤ addr ∧ addr < p.baseQr + Config.windowBytes then some (.qr, BitVec.ofNat 14 (addr - p.baseQr))
  else none

/-- Where an access goes (R70, R108). -/
def Target.resolve (p : Params) : Target → Except Fault (UnitId × BitVec 14)
  | .window u off => .ok (u, off)
  | .bus addr =>
    match selectWindow p addr with
    | some t => .ok t
    | none => .error (.noWindow addr)

/-- One turn of the host with `op` next and `rest` after it (R15, R81, R109). -/
def State.hostOp (s : State) (op : HostOp) (rest : List HostOp) : Host.Outcome State Fault Refusal :=
  match op with
  | .read t bits =>
    match t.resolve s.params with
    | .ok (u, off) => .next ({ s with script := rest }.hostRead u off bits)
    | .error f => .fault f
  | .write t bits v =>
    match t.resolve s.params with
    | .ok (u, off) => .next ({ s with script := rest }.hostWrite u off bits v)
    | .error f => .fault f
  | .waitIdle u =>
    .next ({ s with script := if (s.statusWord u).getLsbD 0 then op :: rest else rest }.hostRead u Register.status.offset 32)
  | .waitIrq u => .next { s with script := if s.irq u then rest else op :: rest }
  | .store u =>
    .next ({ s with
      script := (List.range (s.readValue u Register.olen.offset).toNat).map
        (fun i => HostOp.read (.window u (bufferOffset .obuf i)) 8) ++ rest }.hostRead u Register.olen.offset 32)

/-- The host's step: its next action, or nothing when it has none. -/
def hostTurn (s : State) : Host.Outcome State Fault Refusal :=
  match s.script with
  | [] => .next s
  | op :: rest => s.hostOp op rest

end Sys2Proof.Machine
end

