-- ==== Sys2Proof/Machine/Turns.lean ====
section
/-! DEFINITION. The steps of the agents and whose turn it is (spec/00_scope.md R15, spec/30_encoding.md R104, R105). -/

namespace Sys2Proof.Machine

/-- The `complete` step of unit `u` (R15, R105): enabled when `BUSY` = 1; the latched word is decoded, and its command's rule runs,
or the fault `IllegalCommand` is reported. A unit that is not busy has nothing to do. -/
def completeUnit (u : UnitId) (s : State) : Host.Outcome State Fault Refusal :=
  if (s.shell u).busy then
    match decode u (s.shell u).cmdlatch with
    | .ok i => exec i s
    | .error _ => .next (s.finishIllegal u)
  else .next s

/-- The step of one agent (R15, R300). -/
def takeTurn (a : Agent) (s : State) : Host.Outcome State Fault Refusal :=
  match a with
  | .host => hostTurn s
  | .unit u => completeUnit u s
  | .reset => .next s.assertReset

/-- Whose turn it is: the first of the schedule, else a free choice, for the spec fixes no schedule (R15). -/
def State.currentAgent (s : State) : Agent :=
  match s.schedule with
  | [] => Config.nextAgent s.turns
  | a :: _ => a

/-- The turn is over. -/
def State.endTurn (s : State) : State := { s with schedule := s.schedule.tail, turns := s.turns + 1 }

/-- One step of the machine: the step of the agent whose turn it is, and its turn is over. -/
def runTurn (s : State) : Host.Outcome State Fault Refusal :=
  match takeTurn s.currentAgent s with
  | .next t => .next t.endTurn
  | .fault f => .fault f
  | .refused r => .refused r

/-- Put the command word of `nbits` bits where the next step runs it: its unit has just taken the start step with it (R104), and
has the next turn (notes/assumptions/12.md). -/
def State.placeWord (s : State) (nbits w : Nat) : State :=
  match tableWord nbits w with
  | none => s
  | some word => { s.start (homeUnit word) word with schedule := .unit (homeUnit word) :: s.schedule }

end Sys2Proof.Machine
end

