-- ==== Sys2Proof/Machine/Step.lean ====
section
/-! DEFINITION. The step function and the place a command word is put so that the next step runs it. -/

namespace Sys2Proof.Machine

/-- One step of the machine (R15). -/
def step (s : State) : Host.Outcome State Fault Refusal := runTurn s

/-- `s` with the command word of a row of the opcode table placed so that the very next step runs it. -/
def State.withFetchWord (s : State) (nbits w : Nat) : State := s.placeWord nbits w

end Sys2Proof.Machine
end

