-- ==== Sys2Proof/Machine/HostScript.lean ====
section
/-! DEFINITION. The host script's lines and pseudo-operations as lists of host actions (spec/30_encoding.md R108, R109). -/

namespace Sys2Proof.Machine

/-- `WR U.REG, v` (R108). -/
def scriptWrite (u : UnitId) (r : Register) (v : Word) : List HostOp := [.write (.window u r.offset) 32 v]

/-- `RD U.REG` (R108). -/
def scriptRead (u : UnitId) (r : Register) : List HostOp := [.read (.window u r.offset) 32]

/-- `WB U.IBUF[i], v` (R108). -/
def scriptWriteByte (u : UnitId) (i : Nat) (v : Byte) : List HostOp :=
  [.write (.window u (bufferOffset .ibuf i)) 8 (v.setWidth 32)]

/-- `RB U.OBUF[i]`, and its other form `RB U.IBUF[i]` (R108). -/
def scriptReadByte (u : UnitId) (b : BufferId) (i : Nat) : List HostOp := [.read (.window u (bufferOffset b i)) 8]

/-- A command line: one write of its word to its unit's `CMD` register (R108). An immediate too large for its field: see `encode`. -/
def scriptCommand (i : Instr) : List HostOp := scriptWrite i.unit .cmd (encode i)

/-- `LOAD U, h` (R109). DESIGN CHOICE for 2^32 or more bytes, a number that `ILEN` cannot hold and R109 does not rule out: their
number modulo 2^32 is written (notes/assumptions/16.md). -/
def scriptLoad (u : UnitId) (h : List Byte) : List HostOp :=
  h.zipIdx.flatMap (fun x => scriptWriteByte u x.2 x.1) ++ scriptWrite u .ilen (BitVec.ofNat 32 h.length)

/-- `WAIT U` (R109). -/
def scriptWait (u : UnitId) : List HostOp := [.waitIdle u]

/-- `WAITIRQ U` (R109). -/
def scriptWaitIrq (u : UnitId) : List HostOp := [.waitIrq u]

/-- `STORE U -> name` (R109). -/
def scriptStore (u : UnitId) : List HostOp := [.store u]

/-- `ACK U` (R109). -/
def scriptAck (u : UnitId) : List HostOp := scriptWrite u .status 0x00000002

/-- `BC.SETKEY h` (R109). -/
def scriptSetKey (h : List Byte) : List HostOp := scriptLoad .bc h ++ scriptCommand .bcInit ++ scriptWait .bc

/-- `RUN U, <mnemonic> [arg], h -> name` (R109). -/
def scriptRun (u : UnitId) (i : Instr) (h : List Byte) : List HostOp :=
  scriptLoad u h ++ scriptCommand i ++ scriptWait u ++ scriptStore u

end Sys2Proof.Machine
end

