-- ==== Sys2Proof/Safety.lean ====
section
/-! DEFINITION. The terms claims use: what a completed and a failed command leave (spec/30_encoding.md R105,
spec/60_exceptions.md R262), the draws of a generated prime (spec/44_qr_prime_keygen.md R212, R215), the invariant of every
reachable state, and which states cannot stop. -/

namespace Sys2Proof.Machine

/-! ## What a command leaves -/

/-- Everything outside unit `u` and outside the entropy source is as before, the configuration too. -/
structure OnlyUnit (s t : State) (u : UnitId) : Prop where
  bc : u ≠ .bc → t.bc = s.bc
  qr : u ≠ .qr → t.qr = s.qr
  script : t.script = s.script
  replies : t.replies = s.replies
  schedule : t.schedule = s.schedule
  turns : t.turns = s.turns
  busyReads : t.busyReads = s.busyReads
  resets : t.resets = s.resets
  params : t.params = s.params

/-- The registers no `complete` step writes, and `IBUF`, are as before (R105). -/
structure InputKept (s t : State) (u : UnitId) : Prop where
  ie : (t.shell u).ie = (s.shell u).ie
  ilen : (t.shell u).ilen = (s.shell u).ilen
  cmdlatch : (t.shell u).cmdlatch = (s.shell u).cmdlatch
  ibuf : ∀ i, t.bufByte u .ibuf i = s.bufByte u .ibuf i

/-- Unit `u` has completed without fault with the result bytes `out` (R105): its registers, and every byte of `OBUF`, those beyond
the result as before (R35). The key is not spoken of. -/
structure Completed (s t : State) (u : UnitId) (out : List Byte) : Prop where
  only : OnlyUnit s t u
  input : InputKept s t u
  busy : (t.shell u).busy = false
  done : (t.shell u).done = true
  err : (t.shell u).err = false
  errcode : (t.shell u).errcode = 0
  olen : (t.shell u).olen = BitVec.ofNat 32 out.length
  obuf : ∀ i, t.bufByte u .obuf i = out.getD i (s.bufByte u .obuf i)
  found : u = .qr → t.qr.found = none

/-- Unit `u` has completed with fault `e` (R262): key state, `KEYED` and every byte of both buffers as before, nothing drawn
(R261). -/
structure Failed (s t : State) (u : UnitId) (e : CmdFault) : Prop where
  only : OnlyUnit s t u
  input : InputKept s t u
  busy : (t.shell u).busy = false
  done : (t.shell u).done = true
  err : (t.shell u).err = true
  errcode : (t.shell u).errcode = e.code
  olen : (t.shell u).olen = 0
  obuf : ∀ i, t.bufByte u .obuf i = s.bufByte u .obuf i
  bcKey : t.bc.key = s.bc.key
  qrKey : t.qr.key = s.qr.key
  entropy : t.entropy = s.entropy

/-! ## The key schedule -/

/-- The run of R151 for a key, after `j` block encryptions: the subkeys `P j`, the tables `S j` and the pair (`L j`, `R j`). The run
starts from the constants, the key XORed in, and (0, 0); each encryption takes the pair, the subkeys and the tables as they
then stand; its result is the next pair and overwrites the next two slots, `L` in the even and `R` in the odd one: encryptions 0 to
8 the 18 subkeys, then 128 for each table. -/
structure ScheduleRun (p : Params) (key : List Byte) (P : Nat → Vector Word 18) (S : Nat → Vector (Vector Word 256) 4)
    (L R : Nat → Word) : Prop where
  subkeysFirst : P 0 = keyXor p.subkeys key
  tablesFirst : S 0 = p.tables
  pairFirst : L 0 = 0 ∧ R 0 = 0
  pair : ∀ j, j < 521 → (L (j + 1), R (j + 1)) = encryptBlock (P j) (S j) (L j) (R j)
  subkeys : ∀ j, j < 521 → ∀ i (h : i < 18), (P (j + 1))[i] =
    if i = 2 * j then L (j + 1) else if i = 2 * j + 1 then R (j + 1) else (P j)[i]
  tables : ∀ j, j < 521 → ∀ t (ht : t < 4) i (hi : i < 256), (S (j + 1))[t][i] =
    if 18 + 256 * t + i = 2 * j then L (j + 1) else if 18 + 256 * t + i = 2 * j + 1 then R (j + 1) else (S j)[t][i]

/-! ## Draws -/

/-- The entropy source after `j` more answers. -/
def Entropy.after (e : Entropy) (j : Nat) : Entropy := { answers := e.answers.drop j, given := e.given + j }

/-- A legal base for n that n passes (R211, R212). -/
def GoodBase (n a : Nat) : Prop :=
  2 ≤ a ∧ a ≤ n - 2 ∧ basePasses n (decompose n).1 (decompose n).2 a = true

/-- A legal base for n that n does not pass. -/
def BadBase (n a : Nat) : Prop :=
  2 ≤ a ∧ a ≤ n - 2 ∧ basePasses n (decompose n).1 (decompose n).2 a = false

/-- A legal answer of `DrawCandidate(b)` (R12). -/
def IsCandidate (b c : Nat) : Prop := bitlen c = b ∧ c % 4 = 3

/-- `GenPrime(b)` on this finite sequence of draws returns this number (R215, R306): rejected candidates, each with the bases up
to the first it fails, then a candidate with `MR_ROUNDS` bases it passes. -/
inductive GenPrime (b : Nat) : List Nat → Nat → Prop where
  | accept (c : Nat) (bases : List Nat) :
      IsCandidate b c → bases.length = Config.mrRounds → (∀ a ∈ bases, GoodBase c a) → GenPrime b (c :: bases) c
  | reject (c : Nat) (good : List Nat) (bad : Nat) (draws : List Nat) (p : Nat) :
      IsCandidate b c → good.length < Config.mrRounds → (∀ a ∈ good, GoodBase c a) → BadBase c bad →
      GenPrime b draws p → GenPrime b (c :: (good ++ bad :: draws)) p

/-- What `QR.KEYGEN` guarantees of each prime (R41): its bit length, 3 modulo 4, and that it passed `MR_ROUNDS` bases. That it is
prime is not guaranteed (R43). -/
def ProbablePrime (b p : Nat) : Prop :=
  IsCandidate b p ∧ ∃ bases : List Nat, bases.length = Config.mrRounds ∧ ∀ a ∈ bases, GoodBase p a

/-! ## The invariant -/

/-- What every reachable state says of a unit's registers and buffers of `size` bytes: the buffers are canonical and listed inside
their size (R34, R35), a busy unit shows no `DONE`, `ERR` or code (R29, R104), `ERR` tells whether there is a code and the code
is 1 to 9 (R260), and the result fits the buffer (R75). -/
structure Shell.Inv (sh : Shell) (size : Nat) : Prop where
  ibufForm : Memory.wf sh.ibuf
  obufForm : Memory.wf sh.obuf
  ibufInside : ∀ c ∈ sh.ibuf, c.1 < size
  obufInside : ∀ c ∈ sh.obuf, c.1 < size
  busyClear : sh.busy = true → sh.done = false ∧ sh.err = false
  noErr : sh.err = false → sh.errcode = 0
  errCode : sh.err = true → 1 ≤ sh.errcode.toNat ∧ sh.errcode.toNat ≤ 9
  olenFits : sh.olen.toNat ≤ size

/-- What a generated key is (R41, R42): two numbers of the same legal bit length that passed the test, and their product. -/
def QrKey.Inv (k : QrKey) (p : Params) : Prop :=
  ∃ b, Config.qrKmin / 2 ≤ b ∧ b ≤ p.qrKmax / 2 ∧ ProbablePrime b k.p ∧ ProbablePrime b k.q ∧ k.n = k.p * k.q

/-- What a search in progress is: the first prime of the `QR.KEYGEN` in flight on an unkeyed unit (the MODEL's own field). -/
def QrUnit.SearchInv (x : QrUnit) (params : Params) (p : Nat) : Prop :=
  x.key = none ∧ x.shell.busy = true ∧
    ∃ kbits, decode .qr x.shell.cmdlatch = .ok (.qrKeygen kbits) ∧ badKeySize params kbits = false ∧ ProbablePrime (kbits / 2) p

/-- The invariant of the machine: a legal configuration (R7), and both units in order under it. -/
structure State.Inv (s : State) : Prop where
  legal : s.params.legal
  bc : s.bc.shell.Inv s.params.bcBuf
  qr : s.qr.shell.Inv s.params.qrBuf
  key : ∀ k, s.qr.key = some k → k.Inv s.params
  search : ∀ p, s.qr.found = some p → s.qr.SearchInv s.params p

/-- A turn of `QR.KEYGEN kbits`: its first, with no search under way, or a later one of a machine in order, in which the search under
way is the latched command's own (R306; notes/assumptions/9.md). -/
def State.KeygenTurn (s : State) (kbits : Nat) : Prop :=
  s.qr.found = none ∨ (s.Inv ∧ decode .qr s.qr.shell.cmdlatch = .ok (.qrKeygen kbits))

/-! ## Safe states -/

/-- The access stays inside the two windows. -/
def Target.inWindows (p : Params) (t : Target) : Prop := ∃ x, t.resolve p = .ok x

/-- The host's action stays inside the two windows. -/
def HostOp.inWindows (p : Params) : HostOp → Prop
  | .read t _ => t.inWindows p
  | .write t _ _ => t.inWindows p
  | .waitIdle _ => True
  | .waitIrq _ => True
  | .store _ => True

/-- A state that cannot stop: the host has no access outside the windows to come. -/
def State.Safe (s : State) : Prop := ∀ op ∈ s.script, op.inWindows s.params

end Sys2Proof.Machine
end

