-- ==== Sys2Proof/Certificates/Slice0/Obligations.lean ====
section
/-! DEFINITION. The statements for the provers. Each docstring names the rules of spec/ that the statement formalises. -/

open Sys2Proof Sys2Proof.Machine

/-! ## Encoding -/

/-- R101 to R103, R108: the word of every command that fits its fields decodes, at its own unit, to that command. -/
def Obligations.DecodeOfEncode : Prop :=
  ∀ i : Instr, i.wellFormed = true → decode i.unit (encode i) = .ok i

/-- R101, R102, R106: a word that decodes is the word of the command it decodes to, so no bit of it is dropped; the command
belongs to the unit and fits its fields. -/
def Obligations.EncodeOfDecode : Prop :=
  ∀ (u : UnitId) (w : Word) (i : Instr), decode u w = .ok i → i.wellFormed = true ∧ i.unit = u ∧ encode i = w

/-- R103, R106: a unit's decoder accepts exactly the words that match a row of its part of the opcode map, and a row's match holds
the row's `OP`. -/
def Obligations.DecodeAcceptsOpcodeMap : Prop :=
  (∀ (u : UnitId) (w : Word), (∃ i, decode u w = .ok i) ↔ ∃ r ∈ opcodeMap, r.accepts u w = true) ∧
  ∀ r ∈ opcodeMap, opField r.pattern = r.op

/-- R103, R108: the word of every row decodes to the row's command, the two immediates at their smallest, largest and a middle
value. R106: samples of the three kinds of illegal word. -/
def Obligations.SampleWordsDecode : Prop :=
  (decode .bc 0x00000001 = .ok .bcInit ∧ decode .bc 0x00000002 = .ok .bcEncb ∧ decode .bc 0x00000003 = .ok .bcDecb ∧
    decode .bc 0x00000004 = .ok .bcEnc ∧ decode .bc 0x00000005 = .ok .bcDec ∧ decode .bc 0x0000000F = .ok .bcClear) ∧
  (decode .qr 0x00000014 = .ok .qrEnc ∧ decode .qr 0x00000015 = .ok .qrDec ∧ decode .qr 0x00000016 = .ok .qrGetn ∧
    decode .qr 0x00000017 = .ok .qrGetp ∧ decode .qr 0x00000018 = .ok .qrGetq ∧ decode .qr 0x0000001F = .ok .qrClear) ∧
  (decode .qr 0x00000011 = .ok (.qrKeygen 0) ∧ decode .qr 0x00020011 = .ok (.qrKeygen 512) ∧
    decode .qr 0x00FFFF11 = .ok (.qrKeygen 65535) ∧ decode .qr 0x00000012 = .ok (.qrIsprime 0) ∧
    decode .qr 0x00000512 = .ok (.qrIsprime 5) ∧ decode .qr 0x0000FF12 = .ok (.qrIsprime 255)) ∧
  (decode .bc 0x00000000 = .error .unassigned ∧ decode .bc 0x00000104 = .error .argNotZero ∧
    decode .bc 0x00000014 = .error .wrongUnit ∧ decode .qr 0x01001011 = .error .argNotZero)

/-! ## Steps -/

/-- R15, R105: when it is a unit's turn and the unit is busy with a word that decodes, the step is `exec` of the command at that
state, and the turn is over: the schedule moves on and the count of steps rises. Any step of the unit, that of an illegal word
among them (see `IllegalWordFaults`), is the `complete` step with the turn over; a unit that is not busy does nothing in its turn
(the model's reading of "enabled", log entry 7). -/
def Obligations.StepRunsLatchedCommand : Prop :=
  (∀ (s t : State) (u : UnitId) (i : Instr), s.currentAgent = .unit u → (s.shell u).busy = true →
    decode u (s.shell u).cmdlatch = .ok i → exec i s = .next t →
    step s = .next { t with schedule := t.schedule.tail, turns := t.turns + 1 }) ∧
  (∀ (s t : State) (u : UnitId), s.currentAgent = .unit u → completeUnit u s = .next t →
    step s = .next { t with schedule := t.schedule.tail, turns := t.turns + 1 }) ∧
  ∀ (s : State) (u : UnitId), (s.shell u).busy = false → completeUnit u s = .next s

/-- R104, R105 and log entry 12: a word of the opcode table placed by `withFetchWord` runs in the very next step. -/
def Obligations.PlacedWordRuns : Prop :=
  ∀ (s t : State) (nbits w : Nat) (i : Instr), decodeTableWord nbits w = some i → exec i (s.withFetchWord nbits w) = .next t →
    step (s.withFetchWord nbits w) = .next { t with schedule := t.schedule.tail, turns := t.turns + 1 }

/-- R104: a host write to `CMD` of an idle unit latches the word, raises `BUSY`, clears `DONE`, `ERR` and `ERRCODE`, makes `irq` fall
and changes nothing else; on a busy unit it is ignored. It happens for every word. -/
def Obligations.StartStep : Prop :=
  ∀ (s : State) (u : UnitId) (w : Word) (rest : List HostOp), s.currentAgent = .host →
    s.script = .write (.window u 0x00) 32 w :: rest →
    ∃ t, step s = .next t ∧ t.script = rest ∧ t.replies = .written :: s.replies ∧ t.bc.key = s.bc.key ∧
      t.qr.key = s.qr.key ∧ t.resets = s.resets ∧ t.entropy = s.entropy ∧ t.params = s.params ∧
      (∀ v, v ≠ u → t.shell v = s.shell v) ∧
      ((s.shell u).busy = false →
        t.shell u = { s.shell u with cmdlatch := w, busy := true, done := false, err := false, errcode := 0 } ∧
        t.irq u = false) ∧
      ((s.shell u).busy = true → t.bc = s.bc ∧ t.qr = s.qr)

/-- R106, R267: a latched word that matches no row of the unit's opcode map completes with `IllegalCommand`, keyed or not and
whatever `ILEN` holds, and nothing else changes. -/
def Obligations.IllegalWordFaults : Prop :=
  ∀ (s : State) (u : UnitId), (s.shell u).busy = true →
    (¬ ∃ r ∈ opcodeMap, r.accepts u (s.shell u).cmdlatch = true) →
    ∃ t, completeUnit u s = .next t ∧ Failed s t u .illegalCommand

/-- R15, R282: the `complete` steps of the two units commute, and a unit's `complete` step commutes with every host access to
the other unit. -/
def Obligations.UnitsAreIndependent : Prop :=
  (∀ s t₁ t₂ : State, completeUnit .bc s = .next t₁ → completeUnit .qr s = .next t₂ →
    ∃ t, completeUnit .qr t₁ = .next t ∧ completeUnit .bc t₂ = .next t) ∧
  ∀ (s t : State) (u v : UnitId) (off : BitVec 14) (bits : Nat) (x : Word), u ≠ v → completeUnit v s = .next t →
    completeUnit v (s.hostWrite u off bits x) = .next (t.hostWrite u off bits x) ∧
    completeUnit v (s.hostRead u off bits) = .next (t.hostRead u off bits)

/-- R15, R105: the `complete` step of any command leaves the other unit, the host's side and the input registers and bytes alone,
and only `QR.KEYGEN` and `QR.ISPRIME` draw (R47). -/
def Obligations.CommandFrame : Prop :=
  ∀ (i : Instr) (s t : State), exec i s = .next t →
    OnlyUnit s t i.unit ∧ InputKept s t i.unit ∧
    ((∀ k, i ≠ .qrKeygen k) → (∀ k, i ≠ .qrIsprime k) → t.entropy = s.entropy)

/-! ## The window -/

/-- R79: which widths and alignments each part of the window accepts; any other access gets `HostFault`, no value, and has no effect
on any state of a unit. -/
def Obligations.WindowWidths : Prop :=
  ∀ (off : BitVec 14) (bits : Nat),
    (accepts off bits = true ↔
      (off.toNat < 0x1000 ∧ bits = 32 ∧ off.toNat % 4 = 0) ∨
      (0x1000 ≤ off.toNat ∧ off.toNat < 0x3000 ∧ bits = 8) ∨
      (0x3000 ≤ off.toNat ∧ (bits = 8 ∨ (bits = 32 ∧ off.toNat % 4 = 0)))) ∧
    (accepts off bits = false → ∀ (s : State) (u : UnitId) (v : Word),
      s.hostRead u off bits = { s with replies := .hostFault :: s.replies } ∧
      s.hostWrite u off bits v = { s with replies := .hostFault :: s.replies })

/-- R28 to R33, R34, R35, R37, R71, R73, R81: what an accepted read answers, place by place. `STATUS` and `CTRL` answer the same
busy or not: `STATUS` holds `BUSY`, `DONE`, `ERR`, `KEYED` and 0 above (R29). The other registers, both buffers byte by byte, and
the places that hold nothing, which read 0, are those of an idle unit. A read changes nothing but the host's answers. -/
def Obligations.WindowReads : Prop :=
  (∀ (s : State) (u : UnitId),
    (s.statusWord u).getLsbD 0 = (s.shell u).busy ∧ (s.statusWord u).getLsbD 1 = (s.shell u).done ∧
    (s.statusWord u).getLsbD 2 = (s.shell u).err ∧ (s.statusWord u).getLsbD 3 = s.keyed u ∧
    (∀ j, 4 ≤ j → (s.statusWord u).getLsbD j = false) ∧
    s.hostRead u 0x04 32 = { s with replies := .word (s.statusWord u) :: s.replies } ∧
    s.hostRead u 0x0C 32 = { s with replies := .word (if (s.shell u).ie then 1 else 0) :: s.replies }) ∧
  ∀ (s : State) (u : UnitId), (s.shell u).busy = false →
    s.hostRead u 0x00 32 = { s with replies := .word 0 :: s.replies } ∧
    s.hostRead u 0x08 32 = { s with replies := .word ((s.shell u).errcode.setWidth 32) :: s.replies } ∧
    s.hostRead u 0x10 32 = { s with replies := .word (s.shell u).ilen :: s.replies } ∧
    s.hostRead u 0x14 32 = { s with replies := .word (s.shell u).olen :: s.replies } ∧
    (∀ off : BitVec 14, 0x18 ≤ off.toNat → off.toNat < 0x1000 → off.toNat % 4 = 0 →
      s.hostRead u off 32 = { s with replies := .word 0 :: s.replies }) ∧
    (∀ i, i < 0x1000 →
      s.hostRead u (0x1000 + BitVec.ofNat 14 i) 8 =
        { s with replies := .byte (if i < s.params.bufSize u then s.bufByte u .ibuf i else 0) :: s.replies } ∧
      s.hostRead u (0x2000 + BitVec.ofNat 14 i) 8 =
        { s with replies := .byte (if i < s.params.bufSize u then s.bufByte u .obuf i else 0) :: s.replies }) ∧
    ∀ off : BitVec 14, 0x3000 ≤ off.toNat →
      s.hostRead u off 8 = { s with replies := .byte 0 :: s.replies } ∧
      (off.toNat % 4 = 0 → s.hostRead u off 32 = { s with replies := .word 0 :: s.replies })

/-- R29 to R33, R37, R71, R270, R273: what a 32-bit write to a register does, `CMD` apart (see `StartStep`). `CTRL`, busy or not: bit 0
becomes `IE`, and `irq` is then that bit AND `DONE`. On an idle unit: bit 1 written to `STATUS` clears `DONE`, any value is stored
in `ILEN`, and `ERRCODE`, `OLEN` and the reserved offsets ignore the write. Nothing else changes but the host's answers. -/
def Obligations.RegisterWrites : Prop :=
  ∀ (s : State) (u : UnitId) (v : Word),
    s.hostWrite u 0x0C 32 v = { s.setShell u { s.shell u with ie := v.getLsbD 0 } with replies := .written :: s.replies } ∧
    (s.hostWrite u 0x0C 32 v).irq u = (v.getLsbD 0 && (s.shell u).done) ∧
    ((s.shell u).busy = false →
      s.hostWrite u 0x04 32 v =
        { s.setShell u { s.shell u with done := (s.shell u).done && !v.getLsbD 1 } with replies := .written :: s.replies } ∧
      s.hostWrite u 0x10 32 v = { s.setShell u { s.shell u with ilen := v } with replies := .written :: s.replies } ∧
      ∀ off : BitVec 14, off = 0x08 ∨ off = 0x14 ∨ (0x18 ≤ off.toNat ∧ off.toNat < 0x1000 ∧ off.toNat % 4 = 0) →
        s.hostWrite u off 32 v = { s with replies := .written :: s.replies }) ∧
    ∀ off : BitVec 14, off = 0x04 ∨ off = 0x0C ∨ off = 0x10 →
      (s.hostWrite u off 32 v).bc.key = s.bc.key ∧ (s.hostWrite u off 32 v).qr.key = s.qr.key ∧
      ∀ u', u' ≠ u → (s.hostWrite u off 32 v).shell u' = s.shell u'

/-- R34, R35, R71, R72, R81: an 8-bit write to byte `i` of `IBUF` of an idle unit, inside the buffer, stores the low byte there, and
every other byte of both buffers, every register and the other unit are as before. A write to an unimplemented byte of `IBUF`, to
any byte of `OBUF` or to the reserved quarter completes and changes nothing. -/
def Obligations.BufferWrites : Prop :=
  ∀ (s : State) (u : UnitId) (v : Word), (s.shell u).busy = false →
    (∀ i, i < 0x1000 → i < s.params.bufSize u →
      let t := s.hostWrite u (0x1000 + BitVec.ofNat 14 i) 8 v
      t.bufByte u .ibuf i = v.setWidth 8 ∧ (∀ j, j ≠ i → t.bufByte u .ibuf j = s.bufByte u .ibuf j) ∧
      (∀ j, t.bufByte u .obuf j = s.bufByte u .obuf j) ∧ t.shell u = { s.shell u with ibuf := (t.shell u).ibuf } ∧
      (∀ u', u' ≠ u → t.shell u' = s.shell u') ∧ t.bc.key = s.bc.key ∧ t.qr.key = s.qr.key ∧ t.params = s.params ∧
      t.replies = .written :: s.replies) ∧
    (∀ i, i < 0x1000 → s.params.bufSize u ≤ i →
      s.hostWrite u (0x1000 + BitVec.ofNat 14 i) 8 v = { s with replies := .written :: s.replies }) ∧
    (∀ i, i < 0x1000 → s.hostWrite u (0x2000 + BitVec.ofNat 14 i) 8 v = { s with replies := .written :: s.replies }) ∧
    ∀ (off : BitVec 14) (bits : Nat), 0x3000 ≤ off.toNat → accepts off bits = true →
      s.hostWrite u off bits v = { s with replies := .written :: s.replies }

/-- R310, R311: accepted accesses to the window of a busy unit. A write to `CTRL` takes effect at once and changes `IE` alone; any
other write is a completed access with no effect on any unit. In every state a machine reaches `STATUS` shows `BUSY` = 1, `DONE` = 0,
`ERR` = 0 and `KEYED`. A read elsewhere than at `STATUS` and `CTRL` (for these see `WindowReads`) answers some value and changes no
unit; that the model counts such reads is its own (log entry 5). -/
def Obligations.BusyAccesses : Prop :=
  ∀ (s : State) (u : UnitId) (off : BitVec 14) (bits : Nat) (v : Word), (s.shell u).busy = true →
    accepts off bits = true →
    (off ≠ 0x0C → s.hostWrite u off bits v = { s with replies := .written :: s.replies }) ∧
    (off = 0x0C → s.hostWrite u off bits v =
      { s.setShell u { s.shell u with ie := v.getLsbD 0 } with replies := .written :: s.replies }) ∧
    (s.Inv → s.statusWord u = if s.keyed u then 0x09 else 0x01) ∧
    (off ≠ 0x04 → off ≠ 0x0C → ∃ w : Word,
      s.hostRead u off bits = { s with
        busyReads := s.busyReads + 1
        replies := (if bits = 8 then .byte (w.setWidth 8) else .word w) :: s.replies })

/-- R7, R70, R83: in every legal configuration the two windows are aligned to 16 KiB and disjoint, and the bus address of an offset
of a unit's window selects that unit and offset; an address in neither window selects nothing. -/
def Obligations.BusAddressesSelect : Prop :=
  ∀ p : Params, p.legal →
    (∀ u, p.base u % 0x4000 = 0) ∧ (p.baseBc + 0x4000 ≤ p.baseQr ∨ p.baseQr + 0x4000 ≤ p.baseBc) ∧
    (∀ (u : UnitId) (off : BitVec 14), selectWindow p (p.base u + off.toNat) = some (u, off)) ∧
    ∀ addr : Nat, (∀ u, addr < p.base u ∨ p.base u + 0x4000 ≤ addr) → selectWindow p addr = none

/-- R15, R70, R81, R85: one turn of the host. It takes the next action of its script alone: a plain access, by window offset or by a
bus address that selects one, is the read or write of that offset (for these see `WindowWidths` to `BusyAccesses`) and the rest of
the script is to come. R108, R109: the lines and pseudo-operations of a script. R109: a turn of `WAIT` is one read of `STATUS`, and
the wait ends when `BUSY` reads 0; a turn of `WAITIRQ` is no access, and the wait ends when the line is 1; `STORE` reads `OLEN` (some
value while the unit is busy, R311), and that many byte reads of `OBUF` are to come. The model's own are the form of the script,
where a byte index of 0x1000 or more leads, the length that `LOAD` of 2^32 or more bytes writes and the word of a line whose
immediate is too large for its field (log entry 16), a turn without an action (log entry 7), the stop at an address in neither
window (log entry 3) and the counts of turns and of reads of a busy unit (log entries 7 and 5). -/
def Obligations.HostWaits : Prop :=
  (∀ (s : State) (x : Target) (u : UnitId) (off : BitVec 14) (bits : Nat) (v : Word) (rest : List HostOp),
    s.currentAgent = .host → (x = .window u off ∨ ∃ a, x = .bus a ∧ selectWindow s.params a = some (u, off)) →
    (s.script = .read x bits :: rest →
      step s = .next { { s with script := rest }.hostRead u off bits with
        schedule := s.schedule.tail, turns := s.turns + 1 }) ∧
    (s.script = .write x bits v :: rest →
      step s = .next { { s with script := rest }.hostWrite u off bits v with
        schedule := s.schedule.tail, turns := s.turns + 1 })) ∧
  (∀ (s : State) (a bits : Nat) (v : Word) (rest : List HostOp), s.currentAgent = .host → selectWindow s.params a = none →
    s.script = .read (.bus a) bits :: rest ∨ s.script = .write (.bus a) bits v :: rest → step s = .fault (.noWindow a)) ∧
  (∀ (u : UnitId) (v : Word),
    ∀ x ∈ [(Register.cmd, (0x00 : BitVec 14)), (.status, 0x04), (.errcode, 0x08), (.ctrl, 0x0C), (.ilen, 0x10), (.olen, 0x14)],
      scriptWrite u x.1 v = [.write (.window u x.2) 32 v] ∧ scriptRead u x.1 = [.read (.window u x.2) 32]) ∧
  (∀ (u : UnitId) (i : Instr) (h : List Byte) (v : Byte) (j : Nat),
    scriptWriteByte u j v = [.write (.window u (0x1000 + BitVec.ofNat 14 j)) 8 (v.setWidth 32)] ∧
    scriptReadByte u .ibuf j = [.read (.window u (0x1000 + BitVec.ofNat 14 j)) 8] ∧
    scriptReadByte u .obuf j = [.read (.window u (0x2000 + BitVec.ofNat 14 j)) 8] ∧
    scriptCommand i = [.write (.window i.unit 0x00) 32 (encode i)] ∧ scriptAck u = [.write (.window u 0x04) 32 2] ∧
    scriptWait u = [.waitIdle u] ∧ scriptWaitIrq u = [.waitIrq u] ∧ scriptStore u = [.store u] ∧
    scriptLoad u h = (List.range h.length).map
        (fun k => HostOp.write (.window u (0x1000 + BitVec.ofNat 14 k)) 8 ((h.getD k 0).setWidth 32)) ++
      [.write (.window u 0x10) 32 (BitVec.ofNat 32 h.length)] ∧
    scriptSetKey h = scriptLoad .bc h ++ [.write (.window .bc 0x00) 32 0x00000001, .waitIdle .bc] ∧
    scriptRun u i h = scriptLoad u h ++ [.write (.window i.unit 0x00) 32 (encode i), .waitIdle u, .store u]) ∧
  ∀ (s : State) (u : UnitId) (rest : List HostOp), s.currentAgent = .host →
    (s.script = [] → step s = .next { s with schedule := s.schedule.tail, turns := s.turns + 1 }) ∧
    (s.script = .waitIdle u :: rest → step s = .next { s with
      replies := .word (s.statusWord u) :: s.replies, script := if (s.shell u).busy then s.script else rest
      schedule := s.schedule.tail, turns := s.turns + 1 }) ∧
    (s.script = .waitIrq u :: rest → step s = .next { s with
      script := if s.irq u then rest else s.script, schedule := s.schedule.tail, turns := s.turns + 1 }) ∧
    (s.script = .store u :: rest → ∃ n : Word, ((s.shell u).busy = false → n = (s.shell u).olen) ∧
      step s = .next { s with
        replies := .word n :: s.replies
        script := (List.range n.toNat).map (fun i => HostOp.read (.window u (0x2000 + BitVec.ofNat 14 i)) 8) ++ rest
        busyReads := if (s.shell u).busy then s.busyReads + 1 else s.busyReads
        schedule := s.schedule.tail, turns := s.turns + 1 })

/-! ## Reset -/

/-- R51, R300: what the spec states of the machine after reset. R7, R62: the configuration it has by default, the check values of the
tables among it, and the size of each buffer in any configuration. -/
def Obligations.ResetState : Prop :=
  (∀ u : UnitId, State.reset.statusWord u = 0 ∧ State.reset.errcodeWord u = 0 ∧ State.reset.ctrlWord u = 0 ∧
    (State.reset.shell u).ilen = 0 ∧ (State.reset.shell u).olen = 0 ∧ State.reset.irq u = false) ∧
  State.reset.bc.key = none ∧ State.reset.qr.key = none ∧
  (let p := State.reset.params
   p.legal ∧ p.bcBuf = 4096 ∧ p.qrKmax = 4096 ∧ p.qrBuf = 512 ∧ p.qrZeroLen = 0 ∧
    p.piP.words.foldl (· ^^^ ·) 0 = 0xB73AD7EA ∧ p.piP.words.foldl (· + ·) 0 = 0x8E4D14CC ∧
    p.piS.toList.map (fun t => t.words.foldl (· ^^^ ·) 0) = [0x4EB4DB7F, 0xC727E122, 0x462A5D01, 0x1779E2BC] ∧
    p.piS.toList.map (fun t => t.words.foldl (· + ·) 0) = [0x4B745115, 0x72FF37B2, 0x2AC02B91, 0xF43E3A88]) ∧
  ∀ p : Params, p.bufSize .bc = p.bcBuf ∧ p.bufSize .qr = p.qrBuf ∧ (p.qrKmax % 8 = 0 → 8 * p.qrBuf = p.qrKmax)

/-- R300, R301: the reset input gives both units the state of R51, busy or not; a command in flight is abandoned and reports
nothing; the configuration is unaffected. -/
def Obligations.ResetTurn : Prop :=
  ∀ s : State, s.currentAgent = .reset → ∃ t, step s = .next t ∧ t.params = s.params ∧ t.bc.key = none ∧ t.qr.key = none ∧
    ∀ u : UnitId, t.statusWord u = 0 ∧ t.errcodeWord u = 0 ∧ t.ctrlWord u = 0 ∧ (t.shell u).ilen = 0 ∧
      (t.shell u).olen = 0 ∧ t.irq u = false

/-! ## The block cipher -/

/-- R134: for every `P` and `S`, `DecryptBlock` and `EncryptBlock` are inverse to each other, and each is a bijection. -/
def Obligations.BlockInverse : Prop :=
  ∀ (P : Vector Word 18) (S : Vector (Vector Word 256) 4),
    (∀ l r, decryptBlock P S (encryptBlock P S l r).1 (encryptBlock P S l r).2 = (l, r)) ∧
    (∀ l r, encryptBlock P S (decryptBlock P S l r).1 (decryptBlock P S l r).2 = (l, r)) ∧
    Function.Bijective (fun x : Word × Word => encryptBlock P S x.1 x.2) ∧
    Function.Bijective (fun x : Word × Word => decryptBlock P S x.1 x.2)

/-- R131: F adds, XORs and adds the four words that the bytes of `x`, most significant first, select. R132: the closed form of
`EncryptBlock`. -/
def Obligations.EncryptBlockClosedForm : Prop :=
  (∀ (S : Vector (Vector Word 256) 4) (x : Word) (a b c d : Fin 256),
    x.toNat = a.val * 2 ^ 24 + b.val * 2 ^ 16 + c.val * 2 ^ 8 + d.val →
    (feistelF S x).toNat =
      ((((S[0][a].toNat + S[1][b].toNat) % 2 ^ 32) ^^^ S[2][c].toNat) + S[3][d].toNat) % 2 ^ 32) ∧
  ∀ (P : Vector Word 18) (S : Vector (Vector Word 256) 4) (L R : Nat → Word),
    (∀ i : Fin 16, R (i.val + 1) = L i.val ^^^ P[i.val]'(by omega) ∧
      L (i.val + 1) = R i.val ^^^ feistelF S (L i.val ^^^ P[i.val]'(by omega))) →
    encryptBlock P S (L 0) (R 0) = (R 16 ^^^ P[17], L 16 ^^^ P[16])

/-- R152, R24: `BC.INIT` on an unkeyed unit with 1 to `BC_BUF` key bytes completes: the key state is the schedule of the key, `KEYED`
becomes 1, and no byte is put out. -/
def Obligations.BcInitResult : Prop :=
  ∀ s : State, s.bc.key = none → s.bc.shell.ilen ≠ 0 → s.bc.shell.ilen.toNat ≤ s.params.bcBuf →
    ∃ t, exec .bcInit s = .next t ∧ t.bc.key = some (keySchedule s.params (s.operand .bc)) ∧ t.keyed .bc = true ∧
      Completed s t .bc [] ∧ t.entropy = s.entropy

/-- R150: `KeyXor` XORs into subkey `i` the big-endian chunk of the key bytes `4i` to `4i+3`, each index modulo the key's length.
R151: `KeySchedule` is the end of a run of 521 chained block encryptions (see `ScheduleRun`). So, as R154 derives, only the key's
cyclic extension to 72 bytes matters: a key and its repetition, and a long key and its first 72 bytes, give the same schedule. -/
def Obligations.KeyScheduleValue : Prop :=
  (∀ (P : Vector Word 18) (key : List Byte) (i : Nat) (h : i < 18), key ≠ [] →
    let b := fun j => (key.getD ((4 * i + j) % key.length) 0).toNat
    (keyXor P key)[i] = P[i] ^^^ BitVec.ofNat 32 (b 0 * 2 ^ 24 + b 1 * 2 ^ 16 + b 2 * 2 ^ 8 + b 3)) ∧
  (∀ p : Params, p.subkeys.toList = p.piP.words ∧ ∀ t : Fin 4, p.tables[t].toList = p.piS[t].words) ∧
  (∀ (p : Params) (key : List Byte), ∃ P S L R, ScheduleRun p key P S L R ∧ keySchedule p key = { P := P 521, S := S 521 }) ∧
  (∀ (p : Params) (k₁ k₂ : List Byte), (∀ j, j < 72 → keyByte k₁ j = keyByte k₂ j) → keySchedule p k₁ = keySchedule p k₂) ∧
  (∀ (p : Params) (k : List Byte), k ≠ [] → keySchedule p (k ++ k) = keySchedule p k) ∧
  (∀ (p : Params) (k : List Byte), 72 ≤ k.length → keySchedule p (k.take 72) = keySchedule p k)

/-- R135, R136: `BC.ENCB` and `BC.DECB` on a keyed unit with `ILEN` = 8 complete with the 8 bytes of the block function; the key
stays. -/
def Obligations.OneBlockResult : Prop :=
  ∀ (s : State) (k : BcKey), s.bc.key = some k → s.bc.shell.ilen = 8 →
    let b := s.bufByte .bc .ibuf
    let l := beWord (b 0) (b 1) (b 2) (b 3)
    let r := beWord (b 4) (b 5) (b 6) (b 7)
    (∃ t, exec .bcEncb s = .next t ∧ Completed s t .bc (blockBytes (encryptBlock k.P k.S l r)) ∧
      t.bc.key = some k ∧ t.entropy = s.entropy ∧ t.bc.shell.olen = 8) ∧
    (∃ t, exec .bcDecb s = .next t ∧ Completed s t .bc (blockBytes (decryptBlock k.P k.S l r)) ∧
      t.bc.key = some k ∧ t.entropy = s.entropy ∧ t.bc.shell.olen = 8)

/-- R170, R171: the padded length, the padding bytes, which sequences `Unpad` takes and what it returns, and `Unpad(Pad(m)) = m`. -/
def Obligations.PadUnpad : Prop :=
  (∀ m : List Byte, (pad m).length = 8 * ((m.length + 8) / 8) ∧ unpad (pad m) = .ok m ∧
    ∃ n, 1 ≤ n ∧ n ≤ 8 ∧ pad m = m ++ List.replicate n (BitVec.ofNat 8 n)) ∧
  (∀ x : List Byte, x ≠ [] → x.length % 8 = 0 →
    (∀ out, unpad x = .ok out ↔ ∃ n, 1 ≤ n ∧ n ≤ 8 ∧ x = out ++ List.replicate n (BitVec.ofNat 8 n)) ∧
    (∀ out, unpad x = .ok out → x.length - 8 ≤ out.length ∧ out.length ≤ x.length - 1) ∧
    ((∀ out, unpad x ≠ .ok out) → unpad x = .error .invalidPadding))

/-- R172: `BC.ENC` on a keyed unit with at most `BC_BUF` - 1 bytes completes with the padded message encrypted block by block,
`8*ceil((ILEN+1)/8)` bytes; the key stays. -/
def Obligations.BcEncResult : Prop :=
  ∀ (s : State) (k : BcKey), s.params.legal → s.bc.key = some k → s.bc.shell.ilen.toNat ≤ s.params.bcBuf - 1 →
    ∃ t, exec .bcEnc s = .next t ∧ Completed s t .bc (mapBlocks (encryptBlock k.P k.S) (pad (s.operand .bc))) ∧
      t.bc.key = some k ∧ t.entropy = s.entropy ∧
      t.bc.shell.olen.toNat = 8 * ((s.bc.shell.ilen.toNat + 8) / 8)

/-- R76, R173: the blocks of a message go through the block function one by one: block `j` of the result is `f` of the two big-endian
halves of block `j` of the whole blocks put in, most significant byte first, and depends on nothing else. -/
def Obligations.BlocksIndependent : Prop :=
  (∀ (f : Word → Word → Word × Word) (x : List Byte) (j : Nat), x.length % 8 = 0 → 8 * j < x.length →
    let b := fun i => x.getD (8 * j + i) 0
    (mapBlocks f x).length = x.length ∧
    ((mapBlocks f x).drop (8 * j)).take 8 =
      blockBytes (f (beWord (b 0) (b 1) (b 2) (b 3)) (beWord (b 4) (b 5) (b 6) (b 7)))) ∧
  (∀ a b c d : Byte, (beWord a b c d).toNat = a.toNat * 2 ^ 24 + b.toNat * 2 ^ 16 + c.toNat * 2 ^ 8 + d.toNat) ∧
  ∀ a b c d e f g h : Byte, blockBytes (beWord a b c d, beWord e f g h) = [a, b, c, d, e, f, g, h]

/-- R174: `BC.DEC` on a keyed unit with a positive multiple of 8 bytes, at most `BC_BUF`, whose decrypted blocks end in a
well-formed padding completes with the message; the key stays. -/
def Obligations.BcDecResult : Prop :=
  ∀ (s : State) (k : BcKey) (out : List Byte), s.bc.key = some k → s.bc.shell.ilen ≠ 0 →
    s.bc.shell.ilen.toNat % 8 = 0 → s.bc.shell.ilen.toNat ≤ s.params.bcBuf →
    unpad (mapBlocks (decryptBlock k.P k.S) (s.operand .bc)) = .ok out →
    ∃ t, exec .bcDec s = .next t ∧ Completed s t .bc out ∧ t.bc.key = some k ∧ t.entropy = s.entropy ∧
      s.bc.shell.ilen.toNat - 8 ≤ t.bc.shell.olen.toNat ∧ t.bc.shell.olen.toNat ≤ s.bc.shell.ilen.toNat - 1

/-- R175: `BC.INIT` with any key of 1 to `BC_BUF` bytes, then `BC.ENC` of any plaintext of 0 to `BC_BUF` - 1 bytes, then `BC.DEC` of
its output returns exactly the plaintext, with no fault. -/
def Obligations.BcMessageRoundTrip : Prop :=
  ∀ s₁ : State, s₁.params.legal → s₁.bc.key = none → s₁.bc.shell.ilen ≠ 0 → s₁.bc.shell.ilen.toNat ≤ s₁.params.bcBuf →
    ∃ t₁, exec .bcInit s₁ = .next t₁ ∧ t₁.bc.shell.err = false ∧
      ∀ s₂ : State, s₂.params = s₁.params → s₂.bc.key = t₁.bc.key → s₂.bc.shell.ilen.toNat ≤ s₁.params.bcBuf - 1 →
        ∃ t₂, exec .bcEnc s₂ = .next t₂ ∧ t₂.bc.shell.err = false ∧
          ∀ s₃ : State, s₃.params = s₁.params → s₃.bc.key = t₂.bc.key → s₃.bc.shell.ilen = t₂.bc.shell.olen →
            (∀ i, i < t₂.bc.shell.olen.toNat → s₃.bufByte .bc .ibuf i = t₂.bufByte .bc .obuf i) →
            ∃ t₃, exec .bcDec s₃ = .next t₃ ∧ t₃.bc.shell.err = false ∧ t₃.bc.shell.olen = s₂.bc.shell.ilen ∧
              ∀ i, i < s₂.bc.shell.ilen.toNat → t₃.bufByte .bc .obuf i = s₂.bufByte .bc .ibuf i

/-- R155, R219: `BC.CLEAR` and `QR.CLEAR` complete on every state: no key, no output, no buffer erased, the other unit's key kept. -/
def Obligations.ClearResult : Prop :=
  ∀ s : State,
    (∃ t, exec .bcClear s = .next t ∧ t.bc.key = none ∧ t.keyed .bc = false ∧ Completed s t .bc [] ∧
      t.entropy = s.entropy) ∧
    (∃ t, exec .qrClear s = .next t ∧ t.qr.key = none ∧ t.keyed .qr = false ∧ Completed s t .qr [] ∧
      t.entropy = s.entropy)

/-- R74: the operand of a command is the bytes `IBUF[0..ILEN)` in order. R25, R26: in one configuration a `BC` command's outcome is a
function of the key state, `ILEN` and the bytes `IBUF[0..ILEN)` alone: two states that agree on these give the same key state,
flags, code, length and result bytes. -/
def Obligations.BcCommandsPure : Prop :=
  (∀ (s : State) (u : UnitId), (s.operand u).length = (s.shell u).ilen.toNat ∧
    ∀ i, i < (s.shell u).ilen.toNat → (s.operand u)[i]? = some (s.bufByte u .ibuf i)) ∧
  ∀ (i : Instr) (s s' t t' : State), i.unit = .bc → s.params = s'.params → s.bc.key = s'.bc.key →
    s.bc.shell.ilen = s'.bc.shell.ilen →
    (∀ j, j < s.bc.shell.ilen.toNat → s.bufByte .bc .ibuf j = s'.bufByte .bc .ibuf j) →
    exec i s = .next t → exec i s' = .next t' →
    t.bc.key = t'.bc.key ∧ t.bc.shell.err = t'.bc.shell.err ∧ t.bc.shell.errcode = t'.bc.shell.errcode ∧
    t.bc.shell.olen = t'.bc.shell.olen ∧
    ∀ j, j < t.bc.shell.olen.toNat → t.bufByte .bc .obuf j = t'.bufByte .bc .obuf j

/-- R25, R46: while a unit is keyed no command but its own `CLEAR` changes its key. -/
def Obligations.KeysImmutable : Prop :=
  ∀ (i : Instr) (s t : State), exec i s = .next t →
    (∀ k, s.bc.key = some k → i ≠ .bcClear → t.bc.key = some k) ∧
    (∀ k, s.qr.key = some k → i ≠ .qrClear → t.qr.key = some k)

/-! ## Integers -/

/-- R10: `bitlen` counts the bits. R191: the value of a byte sequence, digit by digit. R192: `I2OSP` is minimal, `OS2IP` undoes it,
and it undoes `OS2IP` where no leading byte is 0; 0 takes `QR_ZERO_LEN` bytes, 0 or 1 in a legal configuration. R196: the checksum
is the sum of the bytes modulo 256, and the encoding of a message has it in front. -/
def Obligations.IntegerBytes : Prop :=
  (∀ x n, bitlen x ≤ n ↔ x < 2 ^ n) ∧
  (os2ip [] = 0 ∧ ∀ (v : Byte) (b : List Byte), os2ip (v :: b) = v.toNat * 256 ^ b.length + os2ip b) ∧
  (∀ z x, os2ip (i2osp z x) = x) ∧
  (∀ z x, 1 ≤ x → (i2osp z x).length = (bitlen x + 7) / 8 ∧ ∃ v, (i2osp z x).head? = some v ∧ v ≠ 0) ∧
  (∀ z, i2osp z 0 = List.replicate z 0) ∧ (∀ p : Params, p.legal → p.qrZeroLen = 0 ∨ p.qrZeroLen = 1) ∧
  (∀ (z : Nat) (v : Byte) (b : List Byte), v ≠ 0 → i2osp z (os2ip (v :: b)) = v :: b) ∧
  (∀ b : List Byte, os2ip (0 :: b) = os2ip b) ∧
  (∀ b : List Byte, (sum8 b).toNat = (b.map BitVec.toNat).sum % 256) ∧
  ∀ msg : List Byte, encodeMessage msg = (sum8 msg).toNat * 256 ^ msg.length + os2ip msg

/-- R194: `ModExp(b, e, m)` is the integer in 0..m-1 congruent to `b^e` modulo m. -/
def Obligations.ModExpValue : Prop :=
  ∀ b e m : Nat, 1 ≤ m → modExp b e m = b ^ e % m ∧ modExp b e m < m

/-- R195: the recursion of `EGCD`, and its result: the greatest common divisor and a Bézout pair. -/
def Obligations.EgcdBezout : Prop :=
  (∀ b, egcd 0 b = (b, 0, 1)) ∧
  (∀ a b, a ≠ 0 → egcd a b =
    ((egcd (b % a) a).1, (egcd (b % a) a).2.2 - (b / a : Nat) * (egcd (b % a) a).2.1, (egcd (b % a) a).2.1)) ∧
  (∀ a b : Nat, (egcd a b).1 = Nat.gcd a b ∧ (a : Int) * (egcd a b).2.1 + b * (egcd a b).2.2 = (Nat.gcd a b : Nat))

/-- R198: with gcd(p, q) = 1 the roots of R244 are those of any pair `yp`, `yq` with `yp*p + yq*q` = 1, not of the pair `EGCD` gives
alone: `u`, `v` and the four candidates are the same for every such pair; and `yp*p`, `yq*q` modulo n are the unique residues that
are 0 and 1, and 1 and 0, modulo the factors. -/
def Obligations.BezoutPairUnobservable : Prop :=
  ∀ (p q : Nat) (yp yq : Int), 0 < p → 0 < q → yp * p + yq * q = 1 →
    let n : Int := ((p * q : Nat) : Int)
    (∀ c : Nat,
      let u : Int := (yp * p * modExp c ((q + 1) / 4) q) % n
      let v : Int := (yq * q * modExp c ((p + 1) / 4) p) % n
      let r1 : Int := (u + v) % n
      let r2 : Int := (u - v) % n
      rootU p q c = u.toNat ∧ rootV p q c = v.toNat ∧ roots p q c = [r1.toNat, r2.toNat, (n - r1).toNat, (n - r2).toNat]) ∧
    (∀ (zp zq mp mq : Int), zp * p + zq * q = 1 →
      (yp * p * mq) % n = (zp * p * mq) % n ∧ (yq * q * mp) % n = (zq * q * mp) % n) ∧
    (∀ x : Int, 0 ≤ x → x < n → ((x % p = 0 ∧ x % q = 1 % q) ↔ x = (yp * p) % n)) ∧
    (∀ x : Int, 0 ≤ x → x < n → ((x % p = 1 % p ∧ x % q = 0) ↔ x = (yq * q) % n))

/-! ## Primality and key generation -/

/-- R12 with the model's reading of answers (log entry 6): a draw lies in its range and a candidate has its form whatever the answer
is, and every value of the range and every candidate is given by some answer. -/
def Obligations.DrawsAreLegal : Prop :=
  (∀ lo hi a, lo ≤ hi → lo ≤ inRange lo hi a ∧ inRange lo hi a ≤ hi) ∧
  (∀ lo hi a, lo ≤ a → a ≤ hi → inRange lo hi a = a) ∧
  (∀ b a, 2 ≤ b → IsCandidate b (inCandidates b a)) ∧
  (∀ b c, IsCandidate b c → inCandidates b c = c)

/-- R210: `Decompose(n)` of an odd n ≥ 3 is the one pair (d, r) with n - 1 = d * 2^r and d odd; r ≥ 1; r = 1 when n is 3 modulo 4. -/
def Obligations.DecomposeUnique : Prop :=
  ∀ n, 3 ≤ n → n % 2 = 1 →
    (∀ d r, (n - 1 = d * 2 ^ r ∧ d % 2 = 1) ↔ (d, r) = decompose n) ∧ 1 ≤ (decompose n).2 ∧
    (n % 4 = 3 → decompose n = ((n - 1) / 2, 1))

/-- R211: a base passes exactly when a^d is 1 modulo n or one of a^d, a^(2d), ..., a^(d*2^(r-1)) is n - 1 modulo n. -/
def Obligations.BasePassesMeaning : Prop :=
  ∀ n d r a, 5 ≤ n → 1 ≤ r →
    (basePasses n d r a = true ↔ a ^ d % n = 1 ∨ ∃ j, j < r ∧ a ^ (d * 2 ^ j) % n = n - 1)

/-- R212: the checks on n before any draw, and for odd n ≥ 5 the result and the number of draws: k passing bases give true after k
draws, the first failing base gives false at once. -/
def Obligations.MillerRabinDraws : Prop :=
  ∀ (n k : Nat) (e : Entropy),
    (n ≤ 1 → isProbablyPrime n k e = (false, e)) ∧ (n = 2 ∨ n = 3 → isProbablyPrime n k e = (true, e)) ∧
    (4 ≤ n → n % 2 = 0 → isProbablyPrime n k e = (false, e)) ∧
    (5 ≤ n → n % 2 = 1 →
      let base := fun j => ((e.after j).draw 2 (n - 2)).1
      ((∀ j, j < k → GoodBase n (base j)) → isProbablyPrime n k e = (true, e.after k)) ∧
      (∀ j, j < k → (∀ i, i < j → GoodBase n (base i)) → BadBase n (base j) →
        isProbablyPrime n k e = (false, e.after (j + 1))) ∧
      ∀ j, GoodBase n (base j) ∨ BadBase n (base j))

/-- R212, its table (a passage the spec marks as general knowledge): a prime passes for every sequence of draws. -/
def Obligations.PrimesAlwaysPass : Prop :=
  ∀ (n k : Nat) (e : Entropy), n.Prime → (isProbablyPrime n k e).1 = true

/-- R213: `QR.ISPRIME k` with `ILEN` ≤ `QR_BUF` completes, keyed or not, with the one byte of the test of the number in `IBUF`; 0 selects
5 bases; the key state is not changed. -/
def Obligations.QrIsprimeResult : Prop :=
  ∀ (s : State) (k : Nat), s.qr.shell.ilen.toNat ≤ s.params.qrBuf →
    let kk := if k = 0 then 5 else k
    let r := isProbablyPrime (os2ip (s.operand .qr)) kk s.entropy
    ∃ t, exec (.qrIsprime k) s = .next t ∧ Completed s t .qr [if r.1 then 0x01 else 0x00] ∧ t.entropy = r.2 ∧
      t.qr.key = s.qr.key

/-- R214, R215, R306: `QR.KEYGEN kbits` of a legal size on an unkeyed unit whose next draws are those of two runs of `GenPrime`
completes with the two numbers, `p` from the first draws and `q` from the next, and uses up exactly those draws. Where a turn before
has accepted `p` (log entry 9), one run of `GenPrime` for `q` is enough. -/
def Obligations.QrKeygenResult : Prop :=
  ∀ (s : State) (kbits p q : Nat) (ps qs rest : List Nat), s.qr.key = none → kbits % 2 = 0 → 16 ≤ kbits →
    kbits ≤ s.params.qrKmax → GenPrime (kbits / 2) qs q →
    (s.qr.found = none → GenPrime (kbits / 2) ps p → s.entropy.answers = ps ++ qs ++ rest →
      ∃ t, exec (.qrKeygen kbits) s = .next t ∧ Completed s t .qr [] ∧
        t.qr.key = some { p := p, q := q, n := p * q } ∧ t.keyed .qr = true ∧
        t.entropy = s.entropy.after (ps.length + qs.length)) ∧
    (s.qr.found = some p → s.entropy.answers = qs ++ rest →
      ∃ t, exec (.qrKeygen kbits) s = .next t ∧ Completed s t .qr [] ∧
        t.qr.key = some { p := p, q := q, n := p * q } ∧ t.keyed .qr = true ∧ t.entropy = s.entropy.after qs.length)

/-- R41, R42: whatever is drawn, a key that a turn of `QR.KEYGEN` makes, its first or a later one, has two numbers of `kbits/2` bits,
3 modulo 4, that each passed `MR_ROUNDS` bases, and their product. -/
def Obligations.QrKeygenGuarantees : Prop :=
  ∀ (s t : State) (kbits : Nat) (k : QrKey), s.qr.key = none → s.KeygenTurn kbits →
    exec (.qrKeygen kbits) s = .next t → t.qr.key = some k →
    kbits % 2 = 0 ∧ 16 ≤ kbits ∧ kbits ≤ s.params.qrKmax ∧
    ProbablePrime (kbits / 2) k.p ∧ ProbablePrime (kbits / 2) k.q ∧ k.n = k.p * k.q ∧
    2 ^ (kbits - 2) ≤ k.n ∧ k.n < 2 ^ kbits

/-- R306: every pair of `kbits/2`-bit numbers 3 modulo 4 for which some choice of bases passes is a possible outcome, equal numbers
among them (R43). -/
def Obligations.QrKeygenEveryPair : Prop :=
  ∀ (s : State) (kbits p q : Nat), s.qr.key = none → s.qr.found = none →
    kbits % 2 = 0 → 16 ≤ kbits → kbits ≤ s.params.qrKmax →
    ProbablePrime (kbits / 2) p → ProbablePrime (kbits / 2) q →
    ∃ draws t, exec (.qrKeygen kbits) { s with entropy := { answers := draws, given := s.entropy.given } } = .next t ∧
      t.qr.key = some { p := p, q := q, n := p * q }

/-- R49 (c), R306 and log entry 9: a step of `QR.KEYGEN` that ends without both primes leaves the unit busy, and changes nothing but
the entropy source and the model's own search field. -/
def Obligations.QrKeygenSearchLeavesNoTrace : Prop :=
  ∀ (s t : State) (kbits : Nat), s.qr.shell.busy = true → exec (.qrKeygen kbits) s = .next t →
    t.qr.shell.busy = true → t = { s with entropy := t.entropy, qr := { s.qr with found := t.qr.found } }

/-- R216 to R218: the read-outs on a keyed unit complete with the minimal bytes of `n`, `p`, `q`; the key stays. -/
def Obligations.QrReadOutResult : Prop :=
  ∀ (s : State) (k : QrKey), s.qr.key = some k →
    (∃ t, exec .qrGetn s = .next t ∧ Completed s t .qr (i2osp s.params.qrZeroLen k.n) ∧ t.qr.key = some k ∧
      t.entropy = s.entropy) ∧
    (∃ t, exec .qrGetp s = .next t ∧ Completed s t .qr (i2osp s.params.qrZeroLen k.p) ∧ t.qr.key = some k ∧
      t.entropy = s.entropy) ∧
    (∃ t, exec .qrGetq s = .next t ∧ Completed s t .qr (i2osp s.params.qrZeroLen k.q) ∧ t.qr.key = some k ∧
      t.entropy = s.entropy)

/-! ## Encryption and decryption -/

/-- R241: `QR.ENC` on a keyed unit of a message that fits completes with the square of its encoding modulo `n`; the key stays. -/
def Obligations.QrEncResult : Prop :=
  ∀ (s : State) (k : QrKey), s.qr.key = some k → s.qr.shell.ilen.toNat ≤ s.params.qrBuf →
    encodeMessage (s.operand .qr) < k.n →
    ∃ t, exec .qrEnc s = .next t ∧
      Completed s t .qr (i2osp s.params.qrZeroLen (encodeMessage (s.operand .qr) * encodeMessage (s.operand .qr) % k.n)) ∧
      t.qr.key = some k ∧ t.entropy = s.entropy

/-- R242: after `QR.KEYGEN kbits`, in however many turns, every message of at most `kbits/8 - 2` bytes fits, whatever its content. -/
def Obligations.ShortMessagesFit : Prop :=
  ∀ (s t : State) (kbits : Nat) (k : QrKey) (msg : List Byte), s.qr.key = none → s.KeygenTurn kbits →
    exec (.qrKeygen kbits) s = .next t → t.qr.key = some k → msg.length + 2 ≤ kbits / 8 → encodeMessage msg < k.n

/-- R244: for distinct primes that are 3 modulo 4 and a square `c` modulo n, the four candidates are, modulo n, all its square
roots. -/
def Obligations.RootsAreAllSquareRoots : Prop :=
  ∀ p q c x : Nat, p.Prime → q.Prime → p ≠ q → p % 4 = 3 → q % 4 = 3 → (∃ y, y * y % (p * q) = c % (p * q)) →
    x < p * q → (x * x % (p * q) = c % (p * q) ↔ ∃ r ∈ roots p q c, r % (p * q) = x)

/-- R244, R246: `c` and `c mod n` give the same candidates, for every p and q that are not 0. -/
def Obligations.RootsReduceCiphertext : Prop :=
  ∀ p q c : Nat, 0 < p → 0 < q → roots p q (c % (p * q)) = roots p q c

/-- R245: `QR.DEC` on a keyed unit completes with the message of the first candidate of at least 2 bytes whose checksum matches,
in the order r1 to r4; the result is not empty; the key stays. -/
def Obligations.QrDecResult : Prop :=
  ∀ (s : State) (k : QrKey) (before after : List Nat) (r : Nat) (c : Byte) (msg : List Byte), s.qr.key = some k →
    s.qr.shell.ilen.toNat ≤ s.params.qrBuf → roots k.p k.q (os2ip (s.operand .qr)) = before ++ r :: after →
    (∀ x ∈ before, (i2osp s.params.qrZeroLen x).length < 2 ∨
      ∃ d rest, i2osp s.params.qrZeroLen x = d :: rest ∧ d ≠ sum8 rest) →
    i2osp s.params.qrZeroLen r = c :: msg → msg ≠ [] → c = sum8 msg →
    ∃ t, exec .qrDec s = .next t ∧ Completed s t .qr msg ∧ t.qr.key = some k ∧ t.entropy = s.entropy

/-- R247: for distinct primes that are 3 modulo 4 and a message that fits, its encoding is one of the four candidates modulo n, and
`QR.DEC` of its ciphertext returns exactly it if and only if its checksum is not 0 and no candidate before its encoding is
accepted. -/
def Obligations.QrRoundTripExactly : Prop :=
  ∀ (s : State) (k : QrKey) (msg : List Byte), s.params.legal → s.qr.key = some k → k.p.Prime → k.q.Prime → k.p ≠ k.q →
    k.p % 4 = 3 → k.q % 4 = 3 → k.n = k.p * k.q → k.n < 2 ^ s.params.qrKmax → msg.length ≤ s.params.qrBuf →
    encodeMessage msg < k.n → s.qr.shell.ilen.toNat ≤ s.params.qrBuf →
    s.operand .qr = i2osp s.params.qrZeroLen (encodeMessage msg * encodeMessage msg % k.n) →
    let rs := roots k.p k.q (os2ip (s.operand .qr))
    (∃ r ∈ rs, r % k.n = encodeMessage msg) ∧
    ((∃ t, exec .qrDec s = .next t ∧ Completed s t .qr msg) ↔
      sum8 msg ≠ 0 ∧ ∀ r ∈ rs.takeWhile (fun r => r != encodeMessage msg), checkCandidate (i2osp s.params.qrZeroLen r) = false)

/-! ## Faults -/

/-- R260, R268 (group 2): the key-state check comes first, whatever `ILEN`, `IBUF` and `kbits` are. -/
def Obligations.KeyStateFaults : Prop :=
  ∀ s : State,
    (s.bc.key ≠ none → ∃ t, exec .bcInit s = .next t ∧ Failed s t .bc .alreadyKeyed) ∧
    (s.qr.key ≠ none → ∀ kbits, ∃ t, exec (.qrKeygen kbits) s = .next t ∧ Failed s t .qr .alreadyKeyed) ∧
    (s.bc.key = none → ∀ i ∈ [Instr.bcEncb, .bcDecb, .bcEnc, .bcDec],
      ∃ t, exec i s = .next t ∧ Failed s t .bc .notKeyed) ∧
    (s.qr.key = none → ∀ i ∈ [Instr.qrEnc, .qrDec, .qrGetn, .qrGetp, .qrGetq],
      ∃ t, exec i s = .next t ∧ Failed s t .qr .notKeyed)

/-- R266, R214, R268 (group 3): with the key state as the command needs it, an empty key is `InvalidKey`, an illegal key size
`InvalidKeySize`, and every other value of `ILEN` outside the command's range is `InvalidLength`. -/
def Obligations.ArgumentFaults : Prop :=
  ∀ s : State,
    (s.bc.key = none → s.bc.shell.ilen = 0 → ∃ t, exec .bcInit s = .next t ∧ Failed s t .bc .invalidKey) ∧
    (s.bc.key = none → s.params.bcBuf < s.bc.shell.ilen.toNat →
      ∃ t, exec .bcInit s = .next t ∧ Failed s t .bc .invalidLength) ∧
    (s.bc.key ≠ none → s.bc.shell.ilen ≠ 8 → ∀ i ∈ [Instr.bcEncb, .bcDecb],
      ∃ t, exec i s = .next t ∧ Failed s t .bc .invalidLength) ∧
    (s.bc.key ≠ none → s.params.bcBuf - 1 < s.bc.shell.ilen.toNat →
      ∃ t, exec .bcEnc s = .next t ∧ Failed s t .bc .invalidLength) ∧
    (s.bc.key ≠ none → (s.bc.shell.ilen = 0 ∨ s.bc.shell.ilen.toNat % 8 ≠ 0 ∨ s.params.bcBuf < s.bc.shell.ilen.toNat) →
      ∃ t, exec .bcDec s = .next t ∧ Failed s t .bc .invalidLength) ∧
    (s.params.qrBuf < s.qr.shell.ilen.toNat → ∀ k, ∃ t, exec (.qrIsprime k) s = .next t ∧ Failed s t .qr .invalidLength) ∧
    (s.qr.key ≠ none → s.params.qrBuf < s.qr.shell.ilen.toNat → ∀ i ∈ [Instr.qrEnc, .qrDec],
      ∃ t, exec i s = .next t ∧ Failed s t .qr .invalidLength) ∧
    (s.qr.key = none → ∀ kbits, (kbits % 2 ≠ 0 ∨ kbits < 16 ∨ s.params.qrKmax < kbits) →
      ∃ t, exec (.qrKeygen kbits) s = .next t ∧ Failed s t .qr .invalidKeySize)

/-- R174, R241, R245, R268 (group 4): the faults that depend on the data. -/
def Obligations.DataFaults : Prop :=
  (∀ (s : State) (k : BcKey), s.bc.key = some k → s.bc.shell.ilen ≠ 0 → s.bc.shell.ilen.toNat % 8 = 0 →
    s.bc.shell.ilen.toNat ≤ s.params.bcBuf →
    (∀ out n, 1 ≤ n → n ≤ 8 →
      mapBlocks (decryptBlock k.P k.S) (s.operand .bc) ≠ out ++ List.replicate n (BitVec.ofNat 8 n)) →
    ∃ t, exec .bcDec s = .next t ∧ Failed s t .bc .invalidPadding) ∧
  (∀ (s : State) (k : QrKey), s.qr.key = some k → s.qr.shell.ilen.toNat ≤ s.params.qrBuf →
    k.n ≤ encodeMessage (s.operand .qr) → ∃ t, exec .qrEnc s = .next t ∧ Failed s t .qr .messageTooLarge) ∧
  (∀ (s : State) (k : QrKey), s.qr.key = some k → s.qr.shell.ilen.toNat ≤ s.params.qrBuf →
    (∀ r ∈ roots k.p k.q (os2ip (s.operand .qr)),
      (i2osp s.params.qrZeroLen r).length < 2 ∨ ∃ d rest, i2osp s.params.qrZeroLen r = d :: rest ∧ d ≠ sum8 rest) →
    ∃ t, exec .qrDec s = .next t ∧ Failed s t .qr .decryptionAmbiguous)

/-- R260: the fault codes. R261, R262: whenever a command ends with `ERR` where it was clear, it has taken the fault branch: one
fault, its code, no output, the key, the buffers and the entropy source untouched. -/
def Obligations.EveryFaultIsPrecise : Prop :=
  (CmdFault.invalidKey.code = 1 ∧ CmdFault.messageTooLarge.code = 2 ∧ CmdFault.decryptionAmbiguous.code = 3 ∧
    CmdFault.invalidPadding.code = 4 ∧ CmdFault.invalidLength.code = 5 ∧ CmdFault.notKeyed.code = 6 ∧
    CmdFault.illegalCommand.code = 7 ∧ CmdFault.invalidKeySize.code = 8 ∧ CmdFault.alreadyKeyed.code = 9) ∧
  ∀ (i : Instr) (s t : State), exec i s = .next t → (s.shell i.unit).err = false → (t.shell i.unit).err = true →
    ∃ e, Failed s t i.unit e

/-! ## Invariants and safety -/

/-- The invariant holds after reset, in the default configuration and in every other legal one. -/
def Obligations.ResetKeepsInvariant : Prop :=
  State.reset.Inv ∧ ∀ p : Params, p.legal → { State.reset with params := p }.Inv

/-- R29, R34, R35, R41, R42, R104, R260: every step of the machine keeps the invariant, whoever takes it. R50, R60: no step changes
the configuration. -/
def Obligations.StepKeepsInvariant : Prop :=
  (∀ s t : State, s.Inv → step s = .next t → t.Inv) ∧ ∀ s t : State, step s = .next t → t.params = s.params

/-- R105, R262 and log entry 3: a machine whose host stays inside the two windows never stops, and stays such a machine. -/
def Obligations.SafeMachinesGoOn : Prop :=
  ∀ s : State, s.Safe → ∃ t, step s = .next t ∧ t.Safe
end

