-- ==== Sys2Proof/Laws/Memory.lean ====
section
/-! SUPPORT. The laws of a buffer: a read after a write, the canonical form, which indices are listed. -/

namespace Sys2Proof.Machine

/-- A canonical buffer lists nothing at an index below its first one. -/
theorem find_of_lt (m : Memory) (i : Nat) (h : ∀ c ∈ m, i < c.1) : Memory.find m i = none := by
  induction m with
  | nil => rfl
  | cons c m ih =>
    have hc : i < c.1 := h c (by simp)
    simp only [Memory.find, Nat.ne_of_gt hc, if_false]
    exact ih fun d hd => h d (List.mem_cons_of_mem c hd)

/-- Reading back the byte just stored. -/
@[simp] theorem find_set_self (m : Memory) (i : Nat) (v : Byte) : Memory.find (Memory.set m i v) i = some v := by
  induction m with
  | nil => simp [Memory.set, Memory.find]
  | cons c m ih =>
    unfold Memory.set
    split
    · simp [Memory.find]
    · split
      · simp [Memory.find]
      · have : c.1 ≠ i := fun h => by omega
        simp [Memory.find, this, ih]

/-- A store leaves every other index alone. -/
theorem find_set_other (m : Memory) (i j : Nat) (v : Byte) (h : j ≠ i) :
    Memory.find (Memory.set m i v) j = Memory.find m j := by
  induction m with
  | nil => simp [Memory.set, Memory.find, h.symm]
  | cons c m ih =>
    unfold Memory.set
    split
    · simp [Memory.find, h.symm]
    · split
      · rename_i hc
        simp [Memory.find, h.symm, ← hc]
      · simp only [Memory.find, ih]

/-- What a store of a byte sequence leaves at every index. -/
theorem find_write (m : Memory) (i : Nat) (vs : List Byte) (j : Nat) :
    Memory.find (Memory.write m i vs) j = if i ≤ j ∧ j < i + vs.length then vs[j - i]? else Memory.find m j := by
  induction vs generalizing m i with
  | nil =>
    simp [Memory.write]
  | cons v vs ih =>
    rw [Memory.write, ih]
    rcases Nat.lt_trichotomy j i with h | h | h
    · have h1 : ¬ (i + 1 ≤ j ∧ j < i + 1 + vs.length) := by omega
      have h2 : ¬ (i ≤ j ∧ j < i + (v :: vs).length) := by omega
      rw [if_neg h1, if_neg h2, find_set_other _ _ _ _ (by omega)]
    · subst h
      have h1 : ¬ (j + 1 ≤ j ∧ j < j + 1 + vs.length) := by omega
      simp
    · by_cases h3 : j < i + 1 + vs.length
      · have h4 : j - i = (j - (i + 1)) + 1 := by omega
        rw [if_pos ⟨by omega, h3⟩, if_pos ⟨by omega, by simp; omega⟩, h4]
        simp
      · rw [if_neg (by omega), if_neg (by simp; omega), find_set_other _ _ _ _ (by omega)]

/-- The indices listed after a store. -/
theorem mem_set (m : Memory) (i : Nat) (v : Byte) (c : Host.Cell) (h : c ∈ Memory.set m i v) : c.1 = i ∨ c ∈ m := by
  induction m with
  | nil => simp [Memory.set] at h; simp [h]
  | cons d m ih =>
    unfold Memory.set at h
    split at h
    · rcases List.mem_cons.mp h with rfl | h
      · exact .inl rfl
      · exact .inr h
    · split at h
      · rcases List.mem_cons.mp h with rfl | h
        · exact .inl rfl
        · exact .inr (List.mem_cons_of_mem _ h)
      · rcases List.mem_cons.mp h with rfl | h
        · exact .inr (by simp)
        · exact (ih h).imp id (List.mem_cons_of_mem _)

/-- The indices listed after a store of a byte sequence. -/
theorem mem_write (m : Memory) (i : Nat) (vs : List Byte) (c : Host.Cell) (h : c ∈ Memory.write m i vs) :
    (i ≤ c.1 ∧ c.1 < i + vs.length) ∨ c ∈ m := by
  induction vs generalizing m i with
  | nil => exact .inr h
  | cons v vs ih =>
    rcases ih (Memory.set m i v) (i + 1) h with h | h
    · exact .inl ⟨by omega, by simp; omega⟩
    · rcases mem_set m i v c h with h | h
      · exact .inl ⟨by omega, by simp; omega⟩
      · exact .inr h

/-- Storing a byte keeps the canonical form. -/
theorem wf_set (m : Memory) (i : Nat) (v : Byte) (h : Memory.wf m) : Memory.wf (Memory.set m i v) := by
  induction m with
  | nil => simp [Memory.set, Memory.wf]
  | cons c m ih =>
    obtain ⟨hc, hm⟩ := List.pairwise_cons.mp h
    unfold Memory.set
    split
    · rename_i hlt
      refine List.pairwise_cons.mpr ⟨fun d hd => ?_, h⟩
      rcases List.mem_cons.mp hd with rfl | hd
      · exact hlt
      · exact Nat.lt_trans hlt (hc d hd)
    · split
      · rename_i heq
        exact List.pairwise_cons.mpr ⟨fun d hd => heq ▸ hc d hd, hm⟩
      · refine List.pairwise_cons.mpr ⟨fun d hd => ?_, ih hm⟩
        rcases mem_set m i v d hd with hd | hd
        · omega
        · exact hc d hd

/-- Storing a byte sequence keeps the canonical form. -/
theorem wf_write (m : Memory) (i : Nat) (vs : List Byte) (h : Memory.wf m) : Memory.wf (Memory.write m i vs) := by
  induction vs generalizing m i with
  | nil => exact h
  | cons v vs ih => exact ih _ _ (wf_set m i v h)

/-- The buffers after reset are canonical. -/
theorem wf_nil : Memory.wf [] := List.Pairwise.nil

/-- Two canonical buffers that read alike at every index are the same data. -/
theorem wf_ext (m m' : Memory) (h : Memory.wf m) (h' : Memory.wf m') (e : ∀ i, Memory.find m i = Memory.find m' i) :
    m = m' := by
  induction m generalizing m' with
  | nil =>
    cases m' with
    | nil => rfl
    | cons c m' => have := e c.1; simp [Memory.find] at this
  | cons c m ih =>
    obtain ⟨hc, hm⟩ := List.pairwise_cons.mp h
    cases m' with
    | nil => have := e c.1; simp [Memory.find] at this
    | cons c' m' =>
      obtain ⟨hc', hm'⟩ := List.pairwise_cons.mp h'
      have below : ∀ i, i ≤ c.1 → Memory.find m i = none := fun i hi =>
        find_of_lt m i fun d hd => Nat.lt_of_le_of_lt hi (hc d hd)
      have below' : ∀ i, i ≤ c'.1 → Memory.find m' i = none := fun i hi =>
        find_of_lt m' i fun d hd => Nat.lt_of_le_of_lt hi (hc' d hd)
      have h1 : c.1 = c'.1 := by
        rcases Nat.lt_trichotomy c.1 c'.1 with hlt | heq | hgt
        · have := e c.1
          simp [Memory.find, Nat.ne_of_gt hlt, below' c.1 hlt.le] at this
        · exact heq
        · have := e c'.1
          simp [Memory.find, Nat.ne_of_gt hgt, below c'.1 hgt.le] at this
      have h2 : c.2 = c'.2 := by have := e c.1; simpa [Memory.find, h1] using this
      have h3 : m = m' := by
        refine ih m' hm hm' fun i => ?_
        by_cases hi : c.1 = i
        · rw [below i hi.ge, below' i (h1 ▸ hi.ge)]
        · have := e i
          simpa [Memory.find, hi, h1 ▸ hi] using this
      rw [h3, Prod.ext h1 h2]

end Sys2Proof.Machine
end

