-- ==== Sys2Proof/Laws/State.lean ====
section
/-! SUPPORT. One lemma for each field and each named update of the state, so that no later proof unfolds a record update. -/

namespace Sys2Proof.Machine

/-! ## The units' registers -/

@[simp] theorem shell_bc (s : State) : s.shell .bc = s.bc.shell := rfl

@[simp] theorem shell_qr (s : State) : s.shell .qr = s.qr.shell := rfl

@[simp] theorem keyed_bc (s : State) : s.keyed .bc = s.bc.key.isSome := rfl

@[simp] theorem keyed_qr (s : State) : s.keyed .qr = s.qr.key.isSome := rfl

@[simp] theorem buffer_ibuf (sh : Shell) : sh.buffer .ibuf = sh.ibuf := rfl

@[simp] theorem buffer_obuf (sh : Shell) : sh.buffer .obuf = sh.obuf := rfl

@[simp] theorem shell_setShell_self (s : State) (u : UnitId) (sh : Shell) : (s.setShell u sh).shell u = sh := by
  cases u <;> rfl

theorem shell_setShell_other (s : State) (u v : UnitId) (sh : Shell) (h : v ≠ u) :
    (s.setShell u sh).shell v = s.shell v := by
  cases u <;> cases v <;> first | rfl | exact absurd rfl h

@[simp] theorem setShell_bcKey (s : State) (u : UnitId) (sh : Shell) : (s.setShell u sh).bc.key = s.bc.key := by
  cases u <;> rfl

@[simp] theorem setShell_qrKey (s : State) (u : UnitId) (sh : Shell) : (s.setShell u sh).qr.key = s.qr.key := by
  cases u <;> rfl

@[simp] theorem setShell_found (s : State) (u : UnitId) (sh : Shell) : (s.setShell u sh).qr.found = s.qr.found := by
  cases u <;> rfl

@[simp] theorem setShell_bc_qr (s : State) (sh : Shell) : (s.setShell .bc sh).qr = s.qr := rfl

@[simp] theorem setShell_qr_bc (s : State) (sh : Shell) : (s.setShell .qr sh).bc = s.bc := rfl

/-! ## `Shell.start` -/

@[simp] theorem start_busy (sh : Shell) (w : Word) : (sh.start w).busy = true := rfl

@[simp] theorem start_done (sh : Shell) (w : Word) : (sh.start w).done = false := rfl

@[simp] theorem start_err (sh : Shell) (w : Word) : (sh.start w).err = false := rfl

@[simp] theorem start_errcode (sh : Shell) (w : Word) : (sh.start w).errcode = 0 := rfl

@[simp] theorem start_ie (sh : Shell) (w : Word) : (sh.start w).ie = sh.ie := rfl

@[simp] theorem start_ilen (sh : Shell) (w : Word) : (sh.start w).ilen = sh.ilen := rfl

@[simp] theorem start_olen (sh : Shell) (w : Word) : (sh.start w).olen = sh.olen := rfl

@[simp] theorem start_ibuf (sh : Shell) (w : Word) : (sh.start w).ibuf = sh.ibuf := rfl

@[simp] theorem start_obuf (sh : Shell) (w : Word) : (sh.start w).obuf = sh.obuf := rfl

@[simp] theorem start_cmdlatch (sh : Shell) (w : Word) : (sh.start w).cmdlatch = w := rfl

/-! ## `Shell.succeed` -/

@[simp] theorem succeed_busy (sh : Shell) (out : List Byte) : (sh.succeed out).busy = false := rfl

@[simp] theorem succeed_done (sh : Shell) (out : List Byte) : (sh.succeed out).done = true := rfl

@[simp] theorem succeed_err (sh : Shell) (out : List Byte) : (sh.succeed out).err = false := rfl

@[simp] theorem succeed_errcode (sh : Shell) (out : List Byte) : (sh.succeed out).errcode = 0 := rfl

@[simp] theorem succeed_ie (sh : Shell) (out : List Byte) : (sh.succeed out).ie = sh.ie := rfl

@[simp] theorem succeed_ilen (sh : Shell) (out : List Byte) : (sh.succeed out).ilen = sh.ilen := rfl

@[simp] theorem succeed_olen (sh : Shell) (out : List Byte) : (sh.succeed out).olen = BitVec.ofNat 32 out.length := rfl

@[simp] theorem succeed_ibuf (sh : Shell) (out : List Byte) : (sh.succeed out).ibuf = sh.ibuf := rfl

@[simp] theorem succeed_obuf (sh : Shell) (out : List Byte) : (sh.succeed out).obuf = Memory.write sh.obuf 0 out := rfl

@[simp] theorem succeed_cmdlatch (sh : Shell) (out : List Byte) : (sh.succeed out).cmdlatch = sh.cmdlatch := rfl

/-! ## `Shell.raise` -/

@[simp] theorem raise_busy (sh : Shell) (e : CmdFault) : (sh.raise e).busy = false := rfl

@[simp] theorem raise_done (sh : Shell) (e : CmdFault) : (sh.raise e).done = true := rfl

@[simp] theorem raise_err (sh : Shell) (e : CmdFault) : (sh.raise e).err = true := rfl

@[simp] theorem raise_errcode (sh : Shell) (e : CmdFault) : (sh.raise e).errcode = e.code := rfl

@[simp] theorem raise_ie (sh : Shell) (e : CmdFault) : (sh.raise e).ie = sh.ie := rfl

@[simp] theorem raise_ilen (sh : Shell) (e : CmdFault) : (sh.raise e).ilen = sh.ilen := rfl

@[simp] theorem raise_olen (sh : Shell) (e : CmdFault) : (sh.raise e).olen = 0 := rfl

@[simp] theorem raise_ibuf (sh : Shell) (e : CmdFault) : (sh.raise e).ibuf = sh.ibuf := rfl

@[simp] theorem raise_obuf (sh : Shell) (e : CmdFault) : (sh.raise e).obuf = sh.obuf := rfl

@[simp] theorem raise_cmdlatch (sh : Shell) (e : CmdFault) : (sh.raise e).cmdlatch = sh.cmdlatch := rfl

/-! ## `Shell.acknowledge` -/

@[simp] theorem acknowledge_busy (sh : Shell) : (sh.acknowledge).busy = sh.busy := rfl

@[simp] theorem acknowledge_done (sh : Shell) : (sh.acknowledge).done = false := rfl

@[simp] theorem acknowledge_err (sh : Shell) : (sh.acknowledge).err = sh.err := rfl

@[simp] theorem acknowledge_errcode (sh : Shell) : (sh.acknowledge).errcode = sh.errcode := rfl

@[simp] theorem acknowledge_ie (sh : Shell) : (sh.acknowledge).ie = sh.ie := rfl

@[simp] theorem acknowledge_ilen (sh : Shell) : (sh.acknowledge).ilen = sh.ilen := rfl

@[simp] theorem acknowledge_olen (sh : Shell) : (sh.acknowledge).olen = sh.olen := rfl

@[simp] theorem acknowledge_ibuf (sh : Shell) : (sh.acknowledge).ibuf = sh.ibuf := rfl

@[simp] theorem acknowledge_obuf (sh : Shell) : (sh.acknowledge).obuf = sh.obuf := rfl

@[simp] theorem acknowledge_cmdlatch (sh : Shell) : (sh.acknowledge).cmdlatch = sh.cmdlatch := rfl

/-! ## `State.setShell` -/

@[simp] theorem setShell_entropy (s : State) (u : UnitId) (sh : Shell) : (s.setShell u sh).entropy = s.entropy := by cases u <;> rfl

@[simp] theorem setShell_script (s : State) (u : UnitId) (sh : Shell) : (s.setShell u sh).script = s.script := by cases u <;> rfl

@[simp] theorem setShell_replies (s : State) (u : UnitId) (sh : Shell) : (s.setShell u sh).replies = s.replies := by cases u <;> rfl

@[simp] theorem setShell_schedule (s : State) (u : UnitId) (sh : Shell) : (s.setShell u sh).schedule = s.schedule := by cases u <;> rfl

@[simp] theorem setShell_turns (s : State) (u : UnitId) (sh : Shell) : (s.setShell u sh).turns = s.turns := by cases u <;> rfl

@[simp] theorem setShell_busyReads (s : State) (u : UnitId) (sh : Shell) : (s.setShell u sh).busyReads = s.busyReads := by cases u <;> rfl

@[simp] theorem setShell_resets (s : State) (u : UnitId) (sh : Shell) : (s.setShell u sh).resets = s.resets := by cases u <;> rfl

@[simp] theorem setShell_params (s : State) (u : UnitId) (sh : Shell) : (s.setShell u sh).params = s.params := by cases u <;> rfl

/-! ## `State.start` -/

@[simp] theorem start_entropy (s : State) (u : UnitId) (w : Word) : (s.start u w).entropy = s.entropy := by cases u <;> rfl

@[simp] theorem start_script (s : State) (u : UnitId) (w : Word) : (s.start u w).script = s.script := by cases u <;> rfl

@[simp] theorem start_replies (s : State) (u : UnitId) (w : Word) : (s.start u w).replies = s.replies := by cases u <;> rfl

@[simp] theorem start_schedule (s : State) (u : UnitId) (w : Word) : (s.start u w).schedule = s.schedule := by cases u <;> rfl

@[simp] theorem start_turns (s : State) (u : UnitId) (w : Word) : (s.start u w).turns = s.turns := by cases u <;> rfl

@[simp] theorem start_busyReads (s : State) (u : UnitId) (w : Word) : (s.start u w).busyReads = s.busyReads := by cases u <;> rfl

@[simp] theorem start_resets (s : State) (u : UnitId) (w : Word) : (s.start u w).resets = s.resets := by cases u <;> rfl

@[simp] theorem start_params (s : State) (u : UnitId) (w : Word) : (s.start u w).params = s.params := by cases u <;> rfl

@[simp] theorem shell_start_self (s : State) (u : UnitId) (w : Word) : (s.start u w).shell u = (s.shell u).start w := by
  cases u <;> rfl

theorem shell_start_other (s : State) (u v : UnitId) (w : Word) (h : v ≠ u) : (s.start u w).shell v = s.shell v := by
  cases u <;> cases v <;> first | rfl | exact absurd rfl h

@[simp] theorem start_bcKey (s : State) (u : UnitId) (w : Word) : (s.start u w).bc.key = s.bc.key := by
  cases u <;> rfl

@[simp] theorem start_qrKey (s : State) (u : UnitId) (w : Word) : (s.start u w).qr.key = s.qr.key := by
  cases u <;> rfl

/-! ## `State.finishBc` -/

@[simp] theorem finishBc_qr (s : State) (r : CmdResult BcKey) : (s.finishBc r).qr = s.qr := by cases r <;> rfl

@[simp] theorem finishBc_entropy (s : State) (r : CmdResult BcKey) : (s.finishBc r).entropy = s.entropy := by cases r <;> rfl

@[simp] theorem finishBc_script (s : State) (r : CmdResult BcKey) : (s.finishBc r).script = s.script := by cases r <;> rfl

@[simp] theorem finishBc_replies (s : State) (r : CmdResult BcKey) : (s.finishBc r).replies = s.replies := by cases r <;> rfl

@[simp] theorem finishBc_schedule (s : State) (r : CmdResult BcKey) : (s.finishBc r).schedule = s.schedule := by cases r <;> rfl

@[simp] theorem finishBc_turns (s : State) (r : CmdResult BcKey) : (s.finishBc r).turns = s.turns := by cases r <;> rfl

@[simp] theorem finishBc_busyReads (s : State) (r : CmdResult BcKey) : (s.finishBc r).busyReads = s.busyReads := by cases r <;> rfl

@[simp] theorem finishBc_resets (s : State) (r : CmdResult BcKey) : (s.finishBc r).resets = s.resets := by cases r <;> rfl

@[simp] theorem finishBc_params (s : State) (r : CmdResult BcKey) : (s.finishBc r).params = s.params := by cases r <;> rfl

@[simp] theorem finishBc_ok_bc (s : State) (x : Option BcKey × List Byte) :
    (s.finishBc (.ok x)).bc = { key := x.1, shell := s.bc.shell.succeed x.2 } := rfl

@[simp] theorem finishBc_error_bc (s : State) (e : CmdFault) :
    (s.finishBc (.error e)).bc = { s.bc with shell := s.bc.shell.raise e } := rfl

/-! ## `State.finishQr` -/

@[simp] theorem finishQr_bc (s : State) (r : CmdResult QrKey) : (s.finishQr r).bc = s.bc := by cases r <;> rfl

@[simp] theorem finishQr_entropy (s : State) (r : CmdResult QrKey) : (s.finishQr r).entropy = s.entropy := by cases r <;> rfl

@[simp] theorem finishQr_script (s : State) (r : CmdResult QrKey) : (s.finishQr r).script = s.script := by cases r <;> rfl

@[simp] theorem finishQr_replies (s : State) (r : CmdResult QrKey) : (s.finishQr r).replies = s.replies := by cases r <;> rfl

@[simp] theorem finishQr_schedule (s : State) (r : CmdResult QrKey) : (s.finishQr r).schedule = s.schedule := by cases r <;> rfl

@[simp] theorem finishQr_turns (s : State) (r : CmdResult QrKey) : (s.finishQr r).turns = s.turns := by cases r <;> rfl

@[simp] theorem finishQr_busyReads (s : State) (r : CmdResult QrKey) : (s.finishQr r).busyReads = s.busyReads := by cases r <;> rfl

@[simp] theorem finishQr_resets (s : State) (r : CmdResult QrKey) : (s.finishQr r).resets = s.resets := by cases r <;> rfl

@[simp] theorem finishQr_params (s : State) (r : CmdResult QrKey) : (s.finishQr r).params = s.params := by cases r <;> rfl

@[simp] theorem finishQr_ok_qr (s : State) (x : Option QrKey × List Byte) :
    (s.finishQr (.ok x)).qr = { key := x.1, shell := s.qr.shell.succeed x.2, found := none } := rfl

@[simp] theorem finishQr_error_qr (s : State) (e : CmdFault) :
    (s.finishQr (.error e)).qr = { s.qr with shell := s.qr.shell.raise e, found := none } := rfl

/-! ## `State.assertReset` -/

@[simp] theorem assertReset_entropy (s : State) : (s.assertReset).entropy = s.entropy := rfl

@[simp] theorem assertReset_script (s : State) : (s.assertReset).script = s.script := rfl

@[simp] theorem assertReset_replies (s : State) : (s.assertReset).replies = s.replies := rfl

@[simp] theorem assertReset_schedule (s : State) : (s.assertReset).schedule = s.schedule := rfl

@[simp] theorem assertReset_turns (s : State) : (s.assertReset).turns = s.turns := rfl

@[simp] theorem assertReset_busyReads (s : State) : (s.assertReset).busyReads = s.busyReads := rfl

@[simp] theorem assertReset_params (s : State) : s.assertReset.params = s.params := rfl

@[simp] theorem assertReset_bc (s : State) : s.assertReset.bc = BcUnit.reset := rfl

@[simp] theorem assertReset_qr (s : State) : s.assertReset.qr = QrUnit.reset := rfl

@[simp] theorem assertReset_resets (s : State) : s.assertReset.resets = s.resets + 1 := rfl

/-! ## `State.answer` -/

@[simp] theorem answer_bc (s : State) (r : Reply) : (s.answer r).bc = s.bc := rfl

@[simp] theorem answer_qr (s : State) (r : Reply) : (s.answer r).qr = s.qr := rfl

@[simp] theorem answer_entropy (s : State) (r : Reply) : (s.answer r).entropy = s.entropy := rfl

@[simp] theorem answer_script (s : State) (r : Reply) : (s.answer r).script = s.script := rfl

@[simp] theorem answer_schedule (s : State) (r : Reply) : (s.answer r).schedule = s.schedule := rfl

@[simp] theorem answer_turns (s : State) (r : Reply) : (s.answer r).turns = s.turns := rfl

@[simp] theorem answer_busyReads (s : State) (r : Reply) : (s.answer r).busyReads = s.busyReads := rfl

@[simp] theorem answer_resets (s : State) (r : Reply) : (s.answer r).resets = s.resets := rfl

@[simp] theorem answer_params (s : State) (r : Reply) : (s.answer r).params = s.params := rfl

@[simp] theorem answer_replies (s : State) (r : Reply) : (s.answer r).replies = r :: s.replies := rfl

/-! ## `State.endTurn` -/

@[simp] theorem endTurn_bc (s : State) : (s.endTurn).bc = s.bc := rfl

@[simp] theorem endTurn_qr (s : State) : (s.endTurn).qr = s.qr := rfl

@[simp] theorem endTurn_entropy (s : State) : (s.endTurn).entropy = s.entropy := rfl

@[simp] theorem endTurn_script (s : State) : (s.endTurn).script = s.script := rfl

@[simp] theorem endTurn_replies (s : State) : (s.endTurn).replies = s.replies := rfl

@[simp] theorem endTurn_busyReads (s : State) : (s.endTurn).busyReads = s.busyReads := rfl

@[simp] theorem endTurn_resets (s : State) : (s.endTurn).resets = s.resets := rfl

@[simp] theorem endTurn_params (s : State) : (s.endTurn).params = s.params := rfl

@[simp] theorem endTurn_schedule (s : State) : s.endTurn.schedule = s.schedule.tail := rfl

@[simp] theorem endTurn_turns (s : State) : s.endTurn.turns = s.turns + 1 := rfl

/-! ## The state after reset -/

@[simp] theorem reset_bc : State.reset.bc = BcUnit.reset := rfl

@[simp] theorem reset_qr : State.reset.qr = QrUnit.reset := rfl

@[simp] theorem reset_script : State.reset.script = [] := rfl

@[simp] theorem reset_replies : State.reset.replies = [] := rfl

@[simp] theorem reset_schedule : State.reset.schedule = [] := rfl

@[simp] theorem reset_turns : State.reset.turns = 0 := rfl

@[simp] theorem reset_busyReads : State.reset.busyReads = 0 := rfl

@[simp] theorem reset_resets : State.reset.resets = 0 := rfl

@[simp] theorem reset_params : State.reset.params = Params.default := rfl

end Sys2Proof.Machine
end

