-- ==== Sys2Proof/Laws/Commands.lean ====
section
/-! SUPPORT. What each shared operation can do, said once: the bytes a completed command leaves, what a fault leaves, what each
command's meaning is made of, and the steps an agent can take. -/

namespace Sys2Proof.Machine

/-! ## Bytes -/

/-- A byte is read from the unit's own buffer and the count of resets only. -/
theorem bufByte_congr (s t : State) (u : UnitId) (b : BufferId) (i : Nat) (hr : t.resets = s.resets)
    (hb : (t.shell u).buffer b = (s.shell u).buffer b) : t.bufByte u b i = s.bufByte u b i := by
  simp only [State.bufByte, hr, hb]

/-- The operand depends on `ILEN`, the bytes of `IBUF` below it, and nothing else. -/
theorem operand_congr (s t : State) (u : UnitId) (hl : (t.shell u).ilen = (s.shell u).ilen)
    (hb : ∀ i, i < (s.shell u).ilen.toNat → t.bufByte u .ibuf i = s.bufByte u .ibuf i) : t.operand u = s.operand u := by
  simp only [State.operand, State.inputBytes, hl]
  exact List.map_congr_left fun i hi => hb i (List.mem_range.mp hi)

@[simp] theorem operand_length (s : State) (u : UnitId) : (s.operand u).length = (s.shell u).ilen.toNat := by
  simp [State.operand, State.inputBytes]

/-- What a written result leaves at every index of `OBUF` (R35). -/
theorem find_result (m : Memory) (out : List Byte) (i : Nat) (d : Byte) :
    (Memory.find (Memory.write m 0 out) i).getD d = out.getD i ((Memory.find m i).getD d) := by
  rw [find_write]
  by_cases h : i < out.length
  · simp [h, List.getD_eq_getElem?_getD]
  · simp [h, List.getD_eq_getElem?_getD]

/-! ## Completion -/

/-- The success branch of a `BC` command (R105). -/
theorem completed_finishBc (s : State) (x : Option BcKey × List Byte) : Completed s (s.finishBc (.ok x)) .bc x.2 where
  only := ⟨fun h => absurd rfl h, fun _ => rfl, rfl, rfl, rfl, rfl, rfl, rfl, rfl⟩
  input := ⟨rfl, rfl, rfl, fun _ => rfl⟩
  busy := rfl
  done := rfl
  err := rfl
  errcode := rfl
  olen := rfl
  obuf _ := find_result _ _ _ _
  found h := nomatch h

/-- The fault branch of a `BC` command (R262). -/
theorem failed_finishBc (s : State) (e : CmdFault) : Failed s (s.finishBc (.error e)) .bc e where
  only := ⟨fun h => absurd rfl h, fun _ => rfl, rfl, rfl, rfl, rfl, rfl, rfl, rfl⟩
  input := ⟨rfl, rfl, rfl, fun _ => rfl⟩
  busy := rfl
  done := rfl
  err := rfl
  errcode := rfl
  olen := rfl
  obuf _ := rfl
  bcKey := rfl
  qrKey := rfl
  entropy := rfl

/-- The success branch of a `QR` command, whatever it drew (R105). -/
theorem completed_finishQr (s : State) (e : Entropy) (x : Option QrKey × List Byte) :
    Completed s ({ s with entropy := e }.finishQr (.ok x)) .qr x.2 where
  only := ⟨fun _ => rfl, fun h => absurd rfl h, rfl, rfl, rfl, rfl, rfl, rfl, rfl⟩
  input := ⟨rfl, rfl, rfl, fun _ => rfl⟩
  busy := rfl
  done := rfl
  err := rfl
  errcode := rfl
  olen := rfl
  obuf _ := find_result _ _ _ _
  found _ := rfl

/-- The fault branch of a `QR` command (R262). -/
theorem failed_finishQr (s : State) (e : CmdFault) : Failed s (s.finishQr (.error e)) .qr e where
  only := ⟨fun _ => rfl, fun h => absurd rfl h, rfl, rfl, rfl, rfl, rfl, rfl, rfl⟩
  input := ⟨rfl, rfl, rfl, fun _ => rfl⟩
  busy := rfl
  done := rfl
  err := rfl
  errcode := rfl
  olen := rfl
  obuf _ := rfl
  bcKey := rfl
  qrKey := rfl
  entropy := rfl

/-- An unknown command word takes the fault branch of its unit (R106, R267). -/
theorem failed_finishIllegal (s : State) (u : UnitId) : Failed s (s.finishIllegal u) u .illegalCommand := by
  cases u
  · exact failed_finishBc s _
  · exact failed_finishQr s _

/-! ## Meanings -/

@[simp] theorem exec_bcInit (s : State) : exec .bcInit s = .next (s.finishBc (bcInitRule s)) := rfl

@[simp] theorem exec_bcEncb (s : State) : exec .bcEncb s = .next (s.finishBc (oneBlockRule BcKey.encrypt s)) := rfl

@[simp] theorem exec_bcDecb (s : State) : exec .bcDecb s = .next (s.finishBc (oneBlockRule BcKey.decrypt s)) := rfl

@[simp] theorem exec_bcEnc (s : State) : exec .bcEnc s = .next (s.finishBc (bcEncRule s)) := rfl

@[simp] theorem exec_bcDec (s : State) : exec .bcDec s = .next (s.finishBc (bcDecRule s)) := rfl

@[simp] theorem exec_bcClear (s : State) : exec .bcClear s = .next (s.finishBc (.ok (none, []))) := rfl

@[simp] theorem exec_qrKeygen (kbits : Nat) (s : State) : exec (.qrKeygen kbits) s = .next (keygenStep kbits s) := rfl

@[simp] theorem exec_qrIsprime (k : Nat) (s : State) :
    exec (.qrIsprime k) s = .next ({ s with entropy := (isprimeRule k s).2 }.finishQr (isprimeRule k s).1) := rfl

@[simp] theorem exec_qrEnc (s : State) : exec .qrEnc s = .next (s.finishQr (qrEncRule s)) := rfl

@[simp] theorem exec_qrDec (s : State) : exec .qrDec s = .next (s.finishQr (qrDecRule s)) := rfl

@[simp] theorem exec_qrGetn (s : State) : exec .qrGetn s = .next (s.finishQr (readKeyRule QrKey.n s)) := rfl

@[simp] theorem exec_qrGetp (s : State) : exec .qrGetp s = .next (s.finishQr (readKeyRule QrKey.p s)) := rfl

@[simp] theorem exec_qrGetq (s : State) : exec .qrGetq s = .next (s.finishQr (readKeyRule QrKey.q s)) := rfl

@[simp] theorem exec_qrClear (s : State) : exec .qrClear s = .next (s.finishQr (.ok (none, []))) := rfl

/-- What one step of `QR.KEYGEN` can do (R214, R306). -/
theorem keygenStep_cases (kbits : Nat) (s : State) :
    (s.qr.key ≠ none ∧ keygenStep kbits s = s.finishQr (.error .alreadyKeyed)) ∨
    (s.qr.key = none ∧ badKeySize s.params kbits = true ∧ keygenStep kbits s = s.finishQr (.error .invalidKeySize)) ∨
    (s.qr.key = none ∧ badKeySize s.params kbits = false ∧
      ((∃ p q e, searchPrimes (kbits / 2) s.entropy.tries s.qr.found s.entropy = .done p q e ∧
          keygenStep kbits s = { s with entropy := e }.finishQr (.ok (some { p := p, q := q, n := p * q }, []))) ∨
       (∃ f e, searchPrimes (kbits / 2) s.entropy.tries s.qr.found s.entropy = .running f e ∧
          keygenStep kbits s = { s with entropy := e, qr := { s.qr with found := f } }))) := by
  unfold keygenStep
  cases hk : s.qr.key with
  | some k => exact .inl ⟨nofun, rfl⟩
  | none =>
    cases hb : badKeySize s.params kbits with
    | true => exact .inr (.inl ⟨rfl, rfl, rfl⟩)
    | false =>
      refine .inr (.inr ⟨rfl, rfl, ?_⟩)
      cases hs : searchPrimes (kbits / 2) s.entropy.tries s.qr.found s.entropy with
      | done p q e => exact .inl ⟨p, q, e, rfl, rfl⟩
      | running f e => exact .inr ⟨f, e, rfl, rfl⟩

/-! ## Steps -/

/-- What a unit's step can do (R15, R105). -/
theorem completeUnit_cases (u : UnitId) (s : State) :
    ((s.shell u).busy = false ∧ completeUnit u s = .next s) ∨
    ((s.shell u).busy = true ∧ (∃ i, decode u (s.shell u).cmdlatch = .ok i ∧ completeUnit u s = exec i s)) ∨
    ((s.shell u).busy = true ∧ (∃ e, decode u (s.shell u).cmdlatch = .error e) ∧
      completeUnit u s = .next (s.finishIllegal u)) := by
  unfold completeUnit
  cases hb : (s.shell u).busy with
  | false => exact .inl ⟨rfl, by simp⟩
  | true =>
    cases hd : decode u (s.shell u).cmdlatch with
    | ok i => exact .inr (.inl ⟨rfl, i, rfl, by simp⟩)
    | error e => exact .inr (.inr ⟨rfl, ⟨e, rfl⟩, by simp⟩)

/-- A step is the step of the agent whose turn it is. -/
theorem step_next (s t : State) (h : takeTurn s.currentAgent s = .next t) : step s = .next t.endTurn := by
  simp only [step, runTurn, h]

/-- A step that answers a state comes from an agent's step. -/
theorem step_eq_next (s t : State) (h : step s = .next t) :
    ∃ t', takeTurn s.currentAgent s = .next t' ∧ t = t'.endTurn := by
  simp only [step, runTurn] at h
  split at h
  · rename_i t' ht
    exact ⟨t', ht, (Host.Outcome.next.inj h).symm⟩
  · exact nomatch h
  · exact nomatch h

@[simp] theorem takeTurn_host (s : State) : takeTurn .host s = hostTurn s := rfl

@[simp] theorem takeTurn_unit (u : UnitId) (s : State) : takeTurn (.unit u) s = completeUnit u s := rfl

@[simp] theorem takeTurn_reset (s : State) : takeTurn .reset s = .next s.assertReset := rfl

/-- A bus address in neither window stops the machine; every other access goes to one place (R70, R83). -/
theorem resolve_cases (p : Params) (t : Target) :
    (∃ u off, t.resolve p = .ok (u, off)) ∨ (∃ a, t = .bus a ∧ t.resolve p = .error (.noWindow a)) := by
  cases t with
  | window u off => exact .inl ⟨u, off, rfl⟩
  | bus a =>
    cases hs : selectWindow p a with
    | none => exact .inr ⟨a, rfl, by simp only [Target.resolve, hs]⟩
    | some x => exact .inl ⟨x.1, x.2, by simp only [Target.resolve, hs]⟩

/-- What an accepted write does to the units (R71, R310). -/
theorem writeEffect_cases (s : State) (u : UnitId) (off : BitVec 14) (v : Word) :
    s.writeEffect u off v = s ∨
    s.writeEffect u off v = s.setShell u { s.shell u with ie := v.getLsbD 0 } ∨
    ((s.shell u).busy = false ∧
      (s.writeEffect u off v = s.start u v ∨
       s.writeEffect u off v = s.setShell u (s.shell u).acknowledge ∨
       s.writeEffect u off v = s.setShell u { s.shell u with ilen := v } ∨
       ∃ i, i < s.params.bufSize u ∧
         s.writeEffect u off v = s.setShell u { s.shell u with ibuf := Memory.set (s.shell u).ibuf i (v.setWidth 8) })) := by
  unfold State.writeEffect
  cases region off with
  | reserved => exact .inl rfl
  | buffer b i =>
    cases b with
    | obuf => exact .inl rfl
    | ibuf =>
      simp only [State.writeBuffer]
      split
      · exact .inl rfl
      · rename_i h
        simp only [Bool.or_eq_true, Bool.not_eq_true', decide_eq_false_iff_not, not_or, Bool.not_eq_true, not_not] at h
        exact .inr (.inr ⟨h.1, .inr (.inr (.inr ⟨i, h.2, rfl⟩))⟩)
  | registers =>
    cases registerAt off with
    | none => exact .inl rfl
    | some r =>
      cases r with
      | ctrl => exact .inr (.inl rfl)
      | errcode => exact .inl rfl
      | olen => exact .inl rfl
      | cmd =>
        simp only [State.writeRegister]
        split
        · exact .inl rfl
        · rename_i h
          exact .inr (.inr ⟨by simpa using h, .inl rfl⟩)
      | ilen =>
        simp only [State.writeRegister]
        split
        · exact .inl rfl
        · rename_i h
          exact .inr (.inr ⟨by simpa using h, .inr (.inr (.inl rfl))⟩)
      | status =>
        simp only [State.writeRegister]
        split
        · exact .inl rfl
        · rename_i h
          simp only [Bool.or_eq_true, Bool.not_eq_true', not_or, Bool.not_eq_true] at h
          exact .inr (.inr ⟨h.1, .inr (.inl rfl)⟩)

/-- A read changes neither unit (R81). -/
theorem hostRead_units (s : State) (u : UnitId) (off : BitVec 14) (bits : Nat) :
    (s.hostRead u off bits).bc = s.bc ∧ (s.hostRead u off bits).qr = s.qr ∧ (s.hostRead u off bits).script = s.script := by
  unfold State.hostRead
  split <;> exact ⟨rfl, rfl, rfl⟩

@[simp] theorem hostRead_params (s : State) (u : UnitId) (off : BitVec 14) (bits : Nat) :
    (s.hostRead u off bits).params = s.params := by
  unfold State.hostRead
  split <;> rfl

@[simp] theorem hostRead_schedule (s : State) (u : UnitId) (off : BitVec 14) (bits : Nat) :
    (s.hostRead u off bits).schedule = s.schedule := by
  unfold State.hostRead
  split <;> rfl

@[simp] theorem hostRead_turns (s : State) (u : UnitId) (off : BitVec 14) (bits : Nat) :
    (s.hostRead u off bits).turns = s.turns := by
  unfold State.hostRead
  split <;> rfl

@[simp] theorem writeEffect_schedule (s : State) (u : UnitId) (off : BitVec 14) (v : Word) :
    (s.writeEffect u off v).schedule = s.schedule := by
  rcases writeEffect_cases s u off v with h | h | ⟨-, h | h | h | ⟨i, -, h⟩⟩ <;> rw [h] <;> simp

@[simp] theorem writeEffect_turns (s : State) (u : UnitId) (off : BitVec 14) (v : Word) :
    (s.writeEffect u off v).turns = s.turns := by
  rcases writeEffect_cases s u off v with h | h | ⟨-, h | h | h | ⟨i, -, h⟩⟩ <;> rw [h] <;> simp

@[simp] theorem hostWrite_schedule (s : State) (u : UnitId) (off : BitVec 14) (bits : Nat) (v : Word) :
    (s.hostWrite u off bits v).schedule = s.schedule := by
  unfold State.hostWrite
  split <;> simp

@[simp] theorem hostWrite_turns (s : State) (u : UnitId) (off : BitVec 14) (bits : Nat) (v : Word) :
    (s.hostWrite u off bits v).turns = s.turns := by
  unfold State.hostWrite
  split <;> simp

@[simp] theorem writeEffect_params (s : State) (u : UnitId) (off : BitVec 14) (v : Word) :
    (s.writeEffect u off v).params = s.params := by
  rcases writeEffect_cases s u off v with h | h | ⟨-, h | h | h | ⟨i, -, h⟩⟩ <;> rw [h] <;> simp

@[simp] theorem hostWrite_params (s : State) (u : UnitId) (off : BitVec 14) (bits : Nat) (v : Word) :
    (s.hostWrite u off bits v).params = s.params := by
  unfold State.hostWrite
  split <;> simp

/-- The region and the index that a byte's offset in the window names (R72, R73). -/
theorem region_bufferOffset (b : BufferId) (i : Nat) (h : i < 0x1000) : region (bufferOffset b i) = .buffer b i := by
  cases b with
  | ibuf =>
    have e : (bufferOffset .ibuf i).toNat = 0x1000 + i := by
      change (0x1000 + i % 2 ^ 14) % 2 ^ 14 = 0x1000 + i
      omega
    simp only [region, e]
    rw [if_neg (by omega), if_pos (by omega), Nat.add_sub_cancel_left]
  | obuf =>
    have e : (bufferOffset .obuf i).toNat = 0x2000 + i := by
      change (0x2000 + i % 2 ^ 14) % 2 ^ 14 = 0x2000 + i
      omega
    simp only [region, e]
    rw [if_neg (by omega), if_neg (by omega), if_pos (by omega), Nat.add_sub_cancel_left]

/-- A write does what `writeEffect` says, or nothing when the window does not accept it (R79). -/
theorem hostWrite_cases (s : State) (u : UnitId) (off : BitVec 14) (bits : Nat) (v : Word) :
    (accepts off bits = true ∧ s.hostWrite u off bits v = (s.writeEffect u off v).answer .written) ∨
    (accepts off bits = false ∧ s.hostWrite u off bits v = s.answer .hostFault) := by
  unfold State.hostWrite
  cases accepts off bits <;> simp

end Sys2Proof.Machine
end

