-- ==== Sys2Proof/Laws/PerInstr.lean ====
section
/-! SUPPORT. A syntactic fact about every command, one lemma for each constructor: the command word that the encoder makes matches
the command's own row of the opcode map of R103. -/

namespace Sys2Proof.Laws.EncodeMatchesRow

/-- The row's `OP`, unit, match and mask hold of the word of a command that fits its fields (R103). -/
def Statement (i : Instr) : Prop :=
  i.wellFormed = true → ∃ r ∈ opcodeMap, r.accepts i.unit (encode i) = true ∧ opField (encode i) = r.op

theorem bcInit : Statement .bcInit := fun _ => ⟨⟨.bc, 0x01, 0x00000001, 0xFFFFFFFF⟩, by decide⟩
theorem bcEncb : Statement .bcEncb := fun _ => ⟨⟨.bc, 0x02, 0x00000002, 0xFFFFFFFF⟩, by decide⟩
theorem bcDecb : Statement .bcDecb := fun _ => ⟨⟨.bc, 0x03, 0x00000003, 0xFFFFFFFF⟩, by decide⟩
theorem bcEnc : Statement .bcEnc := fun _ => ⟨⟨.bc, 0x04, 0x00000004, 0xFFFFFFFF⟩, by decide⟩
theorem bcDec : Statement .bcDec := fun _ => ⟨⟨.bc, 0x05, 0x00000005, 0xFFFFFFFF⟩, by decide⟩
theorem bcClear : Statement .bcClear := fun _ => ⟨⟨.bc, 0x0F, 0x0000000F, 0xFFFFFFFF⟩, by decide⟩
theorem qrEnc : Statement .qrEnc := fun _ => ⟨⟨.qr, 0x14, 0x00000014, 0xFFFFFFFF⟩, by decide⟩
theorem qrDec : Statement .qrDec := fun _ => ⟨⟨.qr, 0x15, 0x00000015, 0xFFFFFFFF⟩, by decide⟩
theorem qrGetn : Statement .qrGetn := fun _ => ⟨⟨.qr, 0x16, 0x00000016, 0xFFFFFFFF⟩, by decide⟩
theorem qrGetp : Statement .qrGetp := fun _ => ⟨⟨.qr, 0x17, 0x00000017, 0xFFFFFFFF⟩, by decide⟩
theorem qrGetq : Statement .qrGetq := fun _ => ⟨⟨.qr, 0x18, 0x00000018, 0xFFFFFFFF⟩, by decide⟩
theorem qrClear : Statement .qrClear := fun _ => ⟨⟨.qr, 0x1F, 0x0000001F, 0xFFFFFFFF⟩, by decide⟩

/-- An immediate below bit `n` placed at bit 8 over an opcode byte leaves the masked word equal to the opcode byte. -/
theorem masked_word (op imm n : Nat) (mask pattern : Word) (hop : op < 256) (himm : imm < 2 ^ n) (hn : n ≤ 16)
    (hmask : ∀ j, j < 32 → mask.getLsbD j = (decide (j < 8) || decide (n + 8 ≤ j)))
    (hpattern : pattern = BitVec.ofNat 32 op) : BitVec.ofNat 32 (op + imm * 0x100) &&& mask = pattern := by
  subst hpattern
  apply BitVec.eq_of_getLsbD_eq
  intro j hj
  have hb : imm < 2 ^ 16 := lt_of_lt_of_le himm (Nat.pow_le_pow_right (by decide) hn)
  have e : op + imm * 0x100 = 2 ^ 8 * imm + op := by omega
  rw [BitVec.getLsbD_and, hmask j hj, e]
  simp only [BitVec.getLsbD_ofNat, hj, decide_true, Bool.true_and]
  rw [Nat.testBit_two_pow_mul_add _ (by omega : op < 2 ^ 8)]
  by_cases h8 : j < 8
  · simp [h8]
  · have hop' : op.testBit j = false :=
      Nat.testBit_lt_two_pow (lt_of_lt_of_le hop (Nat.pow_le_pow_right (n := 2) (by decide) (by omega : 8 ≤ j)))
    by_cases hj2 : n + 8 ≤ j
    · have : imm.testBit (j - 8) = false :=
        Nat.testBit_lt_two_pow (lt_of_lt_of_le himm (Nat.pow_le_pow_right (by decide) (by omega)))
      simp [h8, hop', this]
    · simp [h8, hj2, hop']

/-- The low byte of such a word is the opcode byte. -/
theorem op_of_word (op imm : Nat) : opField (BitVec.ofNat 32 (op + imm * 0x100)) = BitVec.ofNat 8 op := by
  apply BitVec.eq_of_toNat_eq
  simp only [opField, BitVec.extractLsb'_toNat, BitVec.toNat_ofNat]
  omega

theorem qrKeygen (kbits : Nat) : Statement (.qrKeygen kbits) := by
  intro h
  have hk : kbits < 2 ^ 16 := by simpa [Instr.wellFormed] using h
  refine ⟨⟨.qr, 0x11, 0x00000011, 0xFF0000FF⟩, by decide, ?_, op_of_word 0x11 kbits⟩
  have hm := masked_word 0x11 kbits 16 0xFF0000FF 0x00000011 (by decide) hk (by decide) (by decide) rfl
  simpa [OpcodeRow.accepts, Instr.unit, encode] using hm

theorem qrIsprime (k : Nat) : Statement (.qrIsprime k) := by
  intro h
  have hk : k < 2 ^ 8 := by simpa [Instr.wellFormed] using h
  refine ⟨⟨.qr, 0x12, 0x00000012, 0xFFFF00FF⟩, by decide, ?_, op_of_word 0x12 k⟩
  have hm := masked_word 0x12 k 8 0xFFFF00FF 0x00000012 (by decide) hk (by decide) (by decide) rfl
  simpa [OpcodeRow.accepts, Instr.unit, encode] using hm

end Sys2Proof.Laws.EncodeMatchesRow
end

