-- ==== Sys2Proof/Laws/Values.lean ====
section
/-! SUPPORT. What the shared functions can give: lengths and bounds of their results, the draws a passed test has seen, and that the
shared operations keep a unit's registers and buffers in order. -/

namespace Sys2Proof.Machine

/-! ## Bytes and blocks -/

/-- Block operations keep the length of whole blocks and drop what follows them. -/
theorem mapBlocks_length (f : Word → Word → Word × Word) (x : List Byte) :
    (mapBlocks f x).length = 8 * (x.length / 8) := by
  induction x using mapBlocks.induct with
  | case1 a b c d e g h i rest ih =>
    simp only [mapBlocks, blockBytes, bytes32, List.length_append, ih, List.length_cons, List.length_nil]
    omega
  | case2 x h =>
    have short : x.length < 8 := by
      by_contra hx
      match x, h with
      | a :: b :: c :: d :: e :: g :: i :: j :: rest, h => exact h _ _ _ _ _ _ _ _ _ rfl
      | [], _ => simp at hx
      | [_], _ => simp at hx
      | [_, _], _ => simp at hx
      | [_, _, _], _ => simp at hx
      | [_, _, _, _], _ => simp at hx
      | [_, _, _, _, _], _ => simp at hx
      | [_, _, _, _, _, _], _ => simp at hx
      | [_, _, _, _, _, _, _], _ => simp at hx
    rw [mapBlocks.eq_2 _ _ h, List.length_nil]
    omega

/-- Removing a padding does not lengthen. -/
theorem unpad_length (x out : List Byte) (h : unpad x = .ok out) : out.length ≤ x.length := by
  unfold unpad at h
  dsimp only at h
  split at h
  · cases h
  · split at h
    · cases h
      exact List.length_take_le' _ _
    · cases h

@[simp] theorem beBytes_length (len x : Nat) : (beBytes len x).length = len := by
  induction len generalizing x with
  | zero => rfl
  | succ len ih => simp [beBytes, ih]

/-! ## Integers -/

theorem bitlen_le (x b : Nat) (h : x < 2 ^ b) : bitlen x ≤ b := by
  unfold bitlen
  split
  · exact Nat.zero_le b
  · rename_i h0
    have := (Nat.log2_lt h0).mpr h
    omega

theorem lt_two_pow_bitlen (x : Nat) : x < 2 ^ bitlen x := by
  unfold bitlen
  split
  · omega
  · exact Nat.lt_log2_self

theorem two_pow_le_of_bitlen (x b : Nat) (h : bitlen x = b) (hb : 1 ≤ b) : 2 ^ (b - 1) ≤ x := by
  unfold bitlen at h
  split at h
  · omega
  · rename_i h0
    subst h
    simpa using Nat.log2_self_le h0

/-- A number below 2^`QR_KMAX` fits the buffer. -/
theorem i2osp_length (p : Params) (hp : p.legal) (x : Nat) (h : x < 2 ^ p.qrKmax) :
    (i2osp p.qrZeroLen x).length ≤ p.qrBuf := by
  obtain ⟨-, ⟨-, h16, -⟩, hz, -⟩ := hp
  unfold i2osp Params.qrBuf
  split
  · rw [List.length_replicate]
    omega
  · have := bitlen_le x _ h
    rw [beBytes_length]
    omega

/-- No candidate root is above `p * q`. -/
theorem roots_le (p q c : Nat) (hp : 0 < p) (hq : 0 < q) : ∀ r ∈ roots p q c, r ≤ p * q := by
  have hn : 0 < p * q := Nat.mul_pos hp hq
  intro r hr
  simp only [roots, List.mem_cons, List.not_mem_nil, or_false] at hr
  have h1 : root1 p q c < p * q := Nat.mod_lt _ hn
  have h2 : root2 p q c ≤ p * q := by
    unfold root2
    have := Int.emod_lt_of_pos ((rootU p q c : Int) - rootV p q c)
      (show (0 : Int) < ((p * q : Nat) : Int) by exact_mod_cast hn)
    omega
  rcases hr with rfl | rfl | rfl | rfl <;> omega

/-- A message `QR.DEC` returns is the tail of an accepted candidate. -/
theorem firstMessage_some (z : Nat) (rs : List Nat) (msg : List Byte) (h : firstMessage z rs = some msg) :
    ∃ r ∈ rs, checkCandidate (i2osp z r) = true ∧ msg = (i2osp z r).tail := by
  unfold firstMessage at h
  cases hf : (rs.map (i2osp z)).find? checkCandidate with
  | none => simp [hf] at h
  | some b =>
    obtain ⟨r, hr, rfl⟩ := List.mem_map.mp (List.mem_of_find?_eq_some hf)
    have hc : checkCandidate (i2osp z r) = true := List.find?_some hf
    rw [hf] at h
    exact ⟨r, hr, hc, (Option.some.inj h).symm⟩

/-! ## Draws -/

/-- A passed run of bases has seen `k` legal bases that pass. -/
theorem testBases_true (n k : Nat) (e : Entropy) (hn : 4 ≤ n)
    (h : (testBases n (decompose n).1 (decompose n).2 k e).1 = true) :
    ∃ bases : List Nat, bases.length = k ∧ ∀ a ∈ bases, GoodBase n a := by
  induction k generalizing e with
  | zero => exact ⟨[], rfl, nofun⟩
  | succ k ih =>
    unfold testBases at h
    split at h
    · rename_i hp
      obtain ⟨bases, h1, h2⟩ := ih _ h
      have range : 2 ≤ (e.draw 2 (n - 2)).1 ∧ (e.draw 2 (n - 2)).1 ≤ n - 2 := by
        change 2 ≤ inRange 2 (n - 2) e.answer ∧ inRange 2 (n - 2) e.answer ≤ n - 2
        unfold inRange
        split
        · assumption
        · have := Nat.mod_lt e.answer (show 0 < n - 2 - 2 + 1 by omega)
          omega
      refine ⟨(e.draw 2 (n - 2)).1 :: bases, by simp [h1], ?_⟩
      intro a ha
      rcases List.mem_cons.mp ha with rfl | ha
      · exact ⟨range.1, range.2, hp⟩
      · exact h2 a ha
    · simp at h

/-! ## The registers and buffers of a unit -/

/-- A success whose result fits the buffer keeps the unit's registers and buffers in order. -/
theorem succeed_inv (sh : Shell) (size : Nat) (out : List Byte) (h : sh.Inv size) (hl : out.length ≤ size)
    (hs : size < 2 ^ 32) : (sh.succeed out).Inv size where
  ibufForm := h.ibufForm
  obufForm := wf_write _ _ _ h.obufForm
  ibufInside := h.ibufInside
  obufInside c hc := by
    rcases mem_write _ _ _ _ hc with h1 | h1
    · omega
    · exact h.obufInside c h1
  busyClear := nofun
  noErr _ := rfl
  errCode := nofun
  olenFits := by
    change (BitVec.ofNat 32 out.length).toNat ≤ size
    rw [BitVec.toNat_ofNat, Nat.mod_eq_of_lt (by omega)]
    exact hl

/-- A fault keeps them in order. -/
theorem raise_inv (sh : Shell) (size : Nat) (e : CmdFault) (h : sh.Inv size) : (sh.raise e).Inv size where
  ibufForm := h.ibufForm
  obufForm := h.obufForm
  ibufInside := h.ibufInside
  obufInside := h.obufInside
  busyClear := nofun
  noErr := nofun
  errCode _ := by
    change 1 ≤ e.code.toNat ∧ e.code.toNat ≤ 9
    cases e <;> decide
  olenFits := Nat.zero_le _

/-- A start step keeps them in order. -/
theorem start_inv (sh : Shell) (size : Nat) (w : Word) (h : sh.Inv size) : (sh.start w).Inv size where
  ibufForm := h.ibufForm
  obufForm := h.obufForm
  ibufInside := h.ibufInside
  obufInside := h.obufInside
  busyClear _ := ⟨rfl, rfl⟩
  noErr _ := rfl
  errCode := nofun
  olenFits := h.olenFits

end Sys2Proof.Machine
end

