-- ==== Sys2Proof/Tests/Slice0.lean ====
section
/-! SUPPORT. Small tests whose expected results stand in spec/ (each names its vector or rule), and for every statement of
Obligations.lean that has hypotheses a concrete case that meets them. -/

-- One theorem at a time: many at once wait in threads of their own, each with a large stack.
set_option Elab.async false

namespace Sys2Proof.Tests

open Sys2Proof.Machine

/-! ## Ill-formed terms and command words -/

/-- R102: `kbits` has 16 bits. -/
theorem test_kbits_of_17_bits_refused :
    (Instr.qrKeygen 65536).wellFormed = false ∧ (Instr.qrKeygen 65535).wellFormed = true := by decide

/-- R102: `k` has 8 bits. -/
theorem test_k_of_9_bits_refused :
    (Instr.qrIsprime 256).wellFormed = false ∧ (Instr.qrIsprime 255).wellFormed = true := by decide

/-- R108: the six words of `BC`. -/
theorem test_bc_words_decode :
    decode .bc 0x00000001 = .ok .bcInit ∧ decode .bc 0x00000002 = .ok .bcEncb ∧ decode .bc 0x00000003 = .ok .bcDecb ∧
    decode .bc 0x00000004 = .ok .bcEnc ∧ decode .bc 0x00000005 = .ok .bcDec ∧ decode .bc 0x0000000F = .ok .bcClear := by
  decide

/-- R108, V8.41 to V8.43, V8.20, V8.34: the words of `QR`; `kbits` = 16, 512, 4096 and `k` = 5, 0, 255. -/
theorem test_qr_words_decode :
    decode .qr 0x00001011 = .ok (.qrKeygen 16) ∧ decode .qr 0x00020011 = .ok (.qrKeygen 512) ∧
    decode .qr 0x00100011 = .ok (.qrKeygen 4096) ∧ decode .qr 0x00000512 = .ok (.qrIsprime 5) ∧
    decode .qr 0x00000012 = .ok (.qrIsprime 0) ∧ decode .qr 0x0000FF12 = .ok (.qrIsprime 255) ∧
    decode .qr 0x00000014 = .ok .qrEnc ∧ decode .qr 0x00000015 = .ok .qrDec ∧ decode .qr 0x00000016 = .ok .qrGetn ∧
    decode .qr 0x00000017 = .ok .qrGetp ∧ decode .qr 0x00000018 = .ok .qrGetq ∧ decode .qr 0x0000001F = .ok .qrClear := by
  decide

/-- V10.1 to V10.8, V8.35, V8.48: illegal words. -/
theorem test_illegal_words :
    decode .bc 0x00000000 = .error .unassigned ∧ decode .bc 0x00000104 = .error .argNotZero ∧
    decode .bc 0x00000014 = .error .wrongUnit ∧ decode .qr 0x00000004 = .error .wrongUnit ∧
    decode .qr 0x00000013 = .error .unassigned ∧ decode .qr 0x00000010 = .error .unassigned ∧
    decode .qr 0x00000019 = .error .unassigned ∧ decode .bc 0x80000001 = .error .argNotZero ∧
    decode .qr 0x00010012 = .error .argNotZero ∧ decode .qr 0x01001011 = .error .argNotZero ∧
    decode .bc 0xFFFFFFFF = .error .unassigned := by decide

/-- The word of an opcode-table row: of 32 bits, of a byte, and too long. -/
theorem test_table_words :
    decodeTableWord 32 0x00001011 = some (.qrKeygen 16) ∧ decodeTableWord 8 0x0F = some .bcClear ∧
    decodeTableWord 40 0x0F = none := by decide

/-! ## The constants -/

/-- R62: the XOR and the sum of `PI_P` and of each table. -/
theorem test_pi_check_sums :
    Config.piP.words.foldl (· ^^^ ·) 0 = 0xB73AD7EA ∧ Config.piP.words.foldl (· + ·) 0 = 0x8E4D14CC ∧
    Config.piS.toList.map (fun t => t.words.foldl (· ^^^ ·) 0) = [0x4EB4DB7F, 0xC727E122, 0x462A5D01, 0x1779E2BC] ∧
    Config.piS.toList.map (fun t => t.words.foldl (· + ·) 0) = [0x4B745115, 0x72FF37B2, 0x2AC02B91, 0xF43E3A88] := by
  decide +kernel

/-! ## Small states -/

/-- Both units idle after reset but for the given `BC` key, length and input bytes. -/
def bcState (key : Option BcKey) (ilen : Word) (input : Memory) : State :=
  { State.reset with bc := { key := key, shell := { Shell.reset with ilen := ilen, ibuf := input } } }

/-- Both units idle after reset but for the given `QR` key, length and input bytes. -/
def qrState (key : Option QrKey) (ilen : Word) (input : Memory) : State :=
  { State.reset with qr := { key := key, shell := { Shell.reset with ilen := ilen, ibuf := input }, found := none } }

/-- The `QR` unit unkeyed with the next draws given. -/
def drawing (draws : List Nat) : State := { State.reset with entropy := { answers := draws, given := 0 } }

/-- `QR.KEYGEN 16` in flight, its first prime 251 accepted by a turn before, with the next draws given. -/
def laterTurn (draws : List Nat) : State :=
  let s := State.reset.start .qr 0x00001011
  { s with qr := { s.qr with found := some 251 }, entropy := { answers := draws, given := 0 } }

/-- A key state whose block functions swap the halves: R134 speaks of any 1042 words. -/
def zeroKey : BcKey := { P := Vector.replicate 18 0, S := Vector.replicate 4 (Vector.replicate 256 0) }

/-- The key state holding the initial constants themselves, in which V3.1 and V4.1 to V4.6 are worked out. -/
def piKey : BcKey := { P := Params.default.subkeys, S := Params.default.tables }

/-- The key of section 9.1 of the vectors. -/
def smallKey : QrKey := { p := 251, q := 239, n := 59989 }

/-- The first `n` result bytes of a unit. -/
def result (s : State) (u : UnitId) (n : Nat) : List Byte := (List.range n).map (s.bufByte u .obuf)

/-! ## The block cipher -/

/-- V4.1 to V4.5. -/
theorem test_feistelF :
    feistelF piKey.S 0x00000000 = 0x2FCFF51E ∧ feistelF piKey.S 0xFFFFFFFF = 0x452C2867 ∧
    feistelF piKey.S 0x01234567 = 0xF36E574C ∧ feistelF piKey.S 0x243F6A88 = 0xDB2F9C4E ∧
    feistelF piKey.S 0x80000000 = 0x1D9CE8BC := by decide +kernel

/-- V3.1 and R133: the first encryption of the schedule of a zero key, and back. -/
theorem test_block :
    encryptBlock piKey.P piKey.S 0 0 = (0x706D9FCC, 0x1792D23A) ∧
    decryptBlock piKey.P piKey.S 0x706D9FCC 0x1792D23A = (0, 0) := by decide +kernel

/-- V3.1, V3.2: the first two steps of the schedule of a zero key overwrite `P[0]` to `P[3]`. -/
theorem test_schedule_starts :
    let st := [0, 1].foldl Schedule.subkeyStep { P := keyXor piKey.P [0], S := piKey.S, l := 0, r := 0 }
    st.P[0] = 0x706D9FCC ∧ st.P[1] = 0x1792D23A ∧ st.P[2] = 0x2DB9D714 ∧ st.P[3] = 0x966E1439 ∧
    st.P[4] = piKey.P[4] := by decide +kernel

/-- V5.1, V5.2: the chunks of a 3-byte and of a 5-byte key. -/
theorem test_key_chunks :
    (List.range 4).map (keyChunk [0x61, 0x62, 0x63]) = [0x61626361, 0x62636162, 0x63616263, 0x61626361] ∧
    (List.range 6).map (keyChunk [1, 2, 3, 4, 5]) =
      [0x01020304, 0x05010203, 0x04050102, 0x03040501, 0x02030405, 0x01020304] := by decide

/-- Section 6: padding, and V6.24 to V6.27: malformed paddings. -/
theorem test_padding :
    pad [] = [8, 8, 8, 8, 8, 8, 8, 8] ∧ pad [0x41] = [0x41, 7, 7, 7, 7, 7, 7, 7] ∧
    unpad [8, 8, 8, 8, 8, 8, 8, 8] = .ok [] ∧ unpad [1, 1, 1, 1, 1, 1, 1, 1] = .ok [1, 1, 1, 1, 1, 1, 1] ∧
    unpad [0x41, 0x42, 0x43, 0x44, 0x45, 0x46, 0x47, 0] = .error .invalidPadding ∧
    unpad [0x41, 0x42, 0x43, 0x44, 0x45, 0x46, 0x47, 9] = .error .invalidPadding ∧
    unpad [0x41, 0x42, 0x43, 0x44, 0x45, 0x46, 3, 2] = .error .invalidPadding := by decide

/-- V5.11: the shortest key is taken; `STATUS` = 0x0A, `OLEN` = 0. -/
theorem test_bcInit :
    ∃ t, exec .bcInit (bcState none 1 [(0, 0)]) = .next t ∧ t.statusWord .bc = 0x0000000A ∧ t.bc.shell.olen = 0 :=
  ⟨_, rfl, rfl, rfl⟩

/-- V5.10, V5.14, V5.16: no key, a length beyond the buffer, a keyed unit. -/
theorem test_bcInit_faults :
    (∃ t, exec .bcInit (bcState none 0 []) = .next t ∧ t.statusWord .bc = 0x00000006 ∧ t.errcodeWord .bc = 1) ∧
    (∃ t, exec .bcInit (bcState none 0xFFFFFFFF []) = .next t ∧ t.errcodeWord .bc = 5) ∧
    (∃ t, exec .bcInit (bcState (some zeroKey) 0 []) = .next t ∧ t.statusWord .bc = 0x0000000E ∧ t.errcodeWord .bc = 9) :=
  ⟨⟨_, rfl, by decide, by decide⟩, ⟨_, rfl, by decide⟩, ⟨_, rfl, by decide, by decide⟩⟩

/-- V3.1 through the command: the block function of the key state the unit holds. -/
theorem test_bcEncb :
    ∃ t, exec .bcEncb (bcState (some piKey) 8 ((List.range 8).map (fun i => (i, 0)))) = .next t ∧
      result t .bc 8 = [0x70, 0x6D, 0x9F, 0xCC, 0x17, 0x92, 0xD2, 0x3A] ∧ t.bc.shell.olen = 8 :=
  ⟨_, rfl, by decide +kernel, by decide +kernel⟩

/-- R135: any length but 8 faults. -/
theorem test_bcEncb_length :
    ∃ t, exec .bcEncb (bcState (some zeroKey) 16 []) = .next t ∧ t.errcodeWord .bc = 5 ∧ t.bc.shell.olen = 0 :=
  ⟨_, rfl, by decide, by decide⟩

/-- V3.1 backwards. -/
theorem test_bcDecb :
    ∃ t, exec .bcDecb (bcState (some piKey) 8
        [(0, 0x70), (1, 0x6D), (2, 0x9F), (3, 0xCC), (4, 0x17), (5, 0x92), (6, 0xD2), (7, 0x3A)]) = .next t ∧
      result t .bc 8 = [0, 0, 0, 0, 0, 0, 0, 0] := ⟨_, rfl, by decide +kernel⟩

/-- R172 under a key that swaps halves: 7 bytes make one block, 8 bytes make two. -/
theorem test_bcEnc :
    (∃ t, exec .bcEnc (bcState (some zeroKey) 7 [(0, 1), (1, 2), (2, 3), (3, 4), (4, 5), (5, 6), (6, 7)]) = .next t ∧
      result t .bc 8 = [5, 6, 7, 1, 1, 2, 3, 4]) ∧
    (∃ t, exec .bcEnc (bcState (some zeroKey) 8 ((List.range 8).map (fun i => (i, 0)))) = .next t ∧
      t.bc.shell.olen = 16) := ⟨⟨_, rfl, by decide +kernel⟩, ⟨_, rfl, by decide +kernel⟩⟩

/-- Section 6: `ILEN` = 4096 is one byte too long; an unkeyed unit reports `NotKeyed` first. -/
theorem test_bcEnc_faults :
    (∃ t, exec .bcEnc (bcState (some zeroKey) 4096 []) = .next t ∧ t.errcodeWord .bc = 5) ∧
    (∃ t, exec .bcEnc (bcState none 5000 []) = .next t ∧ t.errcodeWord .bc = 6) :=
  ⟨⟨_, rfl, by decide⟩, ⟨_, rfl, by decide⟩⟩

/-- R174 under a key that swaps halves: V6.3's padded text, its halves swapped, gives the 7 bytes. -/
theorem test_bcDec :
    ∃ t, exec .bcDec (bcState (some zeroKey) 8
        [(0, 0x45), (1, 0x46), (2, 0x47), (3, 1), (4, 0x41), (5, 0x42), (6, 0x43), (7, 0x44)]) = .next t ∧
      result t .bc 7 = [0x41, 0x42, 0x43, 0x44, 0x45, 0x46, 0x47] ∧ t.bc.shell.olen = 7 :=
  ⟨_, rfl, by decide +kernel, by decide +kernel⟩

/-- V6.24 and section 6: a malformed padding, and a length that is no multiple of 8. -/
theorem test_bcDec_faults :
    (∃ t, exec .bcDec (bcState (some zeroKey) 8 ((List.range 8).map (fun i => (i, 0)))) = .next t ∧
      t.errcodeWord .bc = 4 ∧ t.bc.shell.olen = 0) ∧
    (∃ t, exec .bcDec (bcState (some zeroKey) 12 []) = .next t ∧ t.errcodeWord .bc = 5) :=
  ⟨⟨_, rfl, by decide +kernel, by decide +kernel⟩, ⟨_, rfl, by decide⟩⟩

/-- V5.17: `STATUS` = 0x02 after `BC.CLEAR` of a keyed unit. -/
theorem test_bcClear :
    ∃ t, exec .bcClear (bcState (some zeroKey) 7 []) = .next t ∧ t.statusWord .bc = 0x00000002 ∧ t.bc.key = none :=
  ⟨_, rfl, by decide, rfl⟩

/-! ## Integers, primality, roots -/

/-- V7.1 to V7.5, V7.7. -/
theorem test_bytes_and_integers :
    os2ip [] = 0 ∧ os2ip [0, 0, 0xFB] = 251 ∧ os2ip [0x41, 0x41] = 16705 ∧ i2osp 0 59989 = [0xEA, 0x55] ∧
    i2osp 0 255 = [0xFF] ∧ i2osp 0 256 = [1, 0] ∧ i2osp 0 0 = [] ∧ i2osp 1 0 = [0] ∧ sum8 [0x80, 0x80] = 0 ∧
    sum8 [0xFF, 0xFF, 0xFF, 0xFF, 0xFF, 0xFF, 0xFF] = 0xF9 ∧ encodeMessage [0x41] = 16705 := by decide +kernel

/-- V7.8, V7.9. -/
theorem test_modExp :
    modExp 2 35 561 = 263 ∧ modExp 48186 63 251 = 112 ∧ modExp 48186 60 239 = 25 ∧ modExp 0 0 7 = 1 ∧ modExp 5 0 1 = 0 ∧
    modExp 7 1 7 = 0 := by decide +kernel

/-- V7.11 to V7.16. -/
theorem test_egcd :
    egcd 251 239 = (1, 20, -21) ∧ egcd 239 251 = (1, -21, 20) ∧ egcd 7 11 = (1, -3, 2) ∧ egcd 11 7 = (1, 2, -3) ∧
    egcd 64279 65011 = (1, 16608, -16421) ∧ egcd 251 251 = (251, 1, 0) ∧ egcd 0 5 = (5, 0, 1) ∧ egcd 5 0 = (5, 1, 0) ∧
    egcd 12 18 = (6, -1, 1) := by decide +kernel

/-- Section 8, the decompositions. -/
theorem test_decompose :
    decompose 561 = (35, 4) ∧ decompose 13 = (3, 2) ∧ decompose 251 = (125, 1) ∧ decompose 9 = (1, 3) := by decide +kernel

/-- V8.1 to V8.12, in part. -/
theorem test_basePasses :
    basePasses 561 35 4 2 = false ∧ basePasses 561 35 4 50 = true ∧ basePasses 221 55 2 174 = true ∧
    basePasses 221 55 2 137 = false ∧ basePasses 13 3 2 2 = true ∧ basePasses 251 125 1 2 = true ∧
    basePasses 2047 1023 1 2 = true ∧ basePasses 2047 1023 1 3 = false := by decide +kernel

/-- V8.24: the wrong answer of a lying base, one draw. -/
theorem test_qrIsprime :
    ∃ t, exec (.qrIsprime 1) { qrState none 2 [(0, 0x02), (1, 0x31)] with
        entropy := { answers := [50, 7], given := 0 } } = .next t ∧
      result t .qr 1 = [1] ∧ t.entropy = { answers := [7], given := 1 } := ⟨_, rfl, by decide +kernel, by decide +kernel⟩

/-- V8.36. -/
theorem test_qrIsprime_length :
    ∃ t, exec (.qrIsprime 5) (qrState none 513 []) = .next t ∧ t.errcodeWord .qr = 5 := ⟨_, rfl, by decide⟩

/-- V8.40: the worked draws of `QR.KEYGEN 16`. -/
theorem test_qrKeygen :
    ∃ t, exec (.qrKeygen 16) (drawing [255, 2, 251, 2, 3, 5, 7, 11, 243, 2, 239, 2, 3, 5, 7, 11, 99]) = .next t ∧
      t.qr.key = some smallKey ∧ t.statusWord .qr = 0x0000000A ∧ t.entropy = { answers := [99], given := 16 } :=
  ⟨_, rfl, by decide +kernel, by decide +kernel, by decide +kernel⟩

/-- V8.44, V8.50: an odd size, and the key-state check before the size check; nothing is drawn. -/
theorem test_qrKeygen_faults :
    (∃ t, exec (.qrKeygen 15) (drawing [255]) = .next t ∧ t.errcodeWord .qr = 8 ∧ t.entropy.given = 0) ∧
    (∃ t, exec (.qrKeygen 15) (qrState (some smallKey) 0 []) = .next t ∧ t.errcodeWord .qr = 9) :=
  ⟨⟨_, rfl, by decide, by decide⟩, ⟨_, rfl, by decide⟩⟩

/-- V8.40: the read-outs. -/
theorem test_qrGetn :
    ∃ t, exec .qrGetn (qrState (some smallKey) 0 []) = .next t ∧ result t .qr 2 = [0xEA, 0x55] ∧ t.qr.shell.olen = 2 :=
  ⟨_, rfl, by decide +kernel, by decide +kernel⟩

/-- V8.40, V8.51. -/
theorem test_qrGetp :
    (∃ t, exec .qrGetp (qrState (some smallKey) 0 []) = .next t ∧ result t .qr 1 = [0xFB] ∧ t.qr.shell.olen = 1) ∧
    (∃ t, exec .qrGetp (qrState none 0 []) = .next t ∧ t.errcodeWord .qr = 6) :=
  ⟨⟨_, rfl, by decide +kernel, by decide +kernel⟩, ⟨_, rfl, by decide⟩⟩

/-- V8.40. -/
theorem test_qrGetq :
    ∃ t, exec .qrGetq (qrState (some smallKey) 0 []) = .next t ∧ result t .qr 1 = [0xEF] ∧ t.qr.shell.olen = 1 :=
  ⟨_, rfl, by decide +kernel, by decide +kernel⟩

/-- P3, line 16: `STATUS` = 0x02 after `QR.CLEAR`. -/
theorem test_qrClear :
    ∃ t, exec .qrClear (qrState (some smallKey) 2 []) = .next t ∧ t.statusWord .qr = 0x00000002 ∧ t.qr.key = none :=
  ⟨_, rfl, by decide, rfl⟩

/-- The worked example of R244, V9.20, and R246 with equal factors (V9.46). -/
theorem test_roots :
    roots 251 239 48186 = [43284, 27749, 16705, 32240] ∧
    roots 65519 65479 0x22C92A84 = [0xEADB0807, 0x5E5E, 0x14DAFBC2, 0xFFB5A56B] ∧
    roots 251 251 0x63FC = [0x6DD0, 0x6DD0, 0x8849, 0x8849] := by decide +kernel

/-- V9.1, V9.7. -/
theorem test_qrEnc :
    (∃ t, exec .qrEnc (qrState (some smallKey) 1 [(0, 0x41)]) = .next t ∧ result t .qr 2 = [0xBC, 0x3A] ∧
      t.qr.shell.olen = 2) ∧
    (∃ t, exec .qrEnc (qrState (some smallKey) 1 [(0, 0xEA)]) = .next t ∧ t.errcodeWord .qr = 2) :=
  ⟨⟨_, rfl, by decide +kernel, by decide +kernel⟩, ⟨_, rfl, by decide +kernel⟩⟩

/-- V9.5: the empty message, in the default configuration and with `QR_ZERO_LEN` = 1; its ciphertext has no message. -/
theorem test_qrEnc_empty :
    (∃ t, exec .qrEnc (qrState (some smallKey) 0 []) = .next t ∧ t.qr.shell.olen = 0 ∧ t.statusWord .qr = 0x0000000A) ∧
    (∃ t, exec .qrEnc { qrState (some smallKey) 0 [] with params := { Params.default with qrZeroLen := 1 } } = .next t ∧
      t.qr.shell.olen = 1 ∧ result t .qr 1 = [0x00]) ∧
    (∃ t, exec .qrDec (qrState (some smallKey) 0 []) = .next t ∧ t.errcodeWord .qr = 3) :=
  ⟨⟨_, rfl, by decide +kernel, by decide +kernel⟩, ⟨_, rfl, by decide +kernel, by decide +kernel⟩, _, rfl, by decide +kernel⟩

/-- V9.1, the third candidate; V9.40, no candidate. -/
theorem test_qrDec :
    (∃ t, exec .qrDec (qrState (some smallKey) 2 [(0, 0xBC), (1, 0x3A)]) = .next t ∧ result t .qr 1 = [0x41] ∧
      t.qr.shell.olen = 1) ∧
    (∃ t, exec .qrDec (qrState (some smallKey) 1 [(0, 0x02)]) = .next t ∧ t.errcodeWord .qr = 3) :=
  ⟨⟨_, rfl, by decide +kernel, by decide +kernel⟩, ⟨_, rfl, by decide +kernel⟩⟩

/-- V9.4: the wrong message of a zero checksum. -/
theorem test_qrDec_zero_checksum :
    ∃ t, exec .qrDec (qrState (some smallKey) 2 [(0, 0x14), (1, 0x7D)]) = .next t ∧ result t .qr 1 = [0x80] ∧
      t.qr.shell.olen = 1 := ⟨_, rfl, by decide +kernel, by decide +kernel⟩

/-! ## The window -/

/-- V10.14, V10.24, V10.23: `CTRL` keeps bit 0 alone; `CMD` and the reserved offsets read 0. -/
theorem test_window_reads :
    ((State.reset.hostWrite .bc 0x0C 32 0xFFFFFFFF).hostRead .bc 0x0C 32).replies = [.word 1, .written] ∧
    (State.reset.hostRead .qr 0x00 32).replies = [.word 0] ∧ (State.reset.hostRead .qr 0xFFC 32).replies = [.word 0] ∧
    (State.reset.hostRead .qr 0x3000 8).replies = [.byte 0] ∧ (State.reset.hostRead .qr 0x1200 8).replies = [.byte 0] := by
  decide +kernel

/-- V10.22. -/
theorem test_host_fault :
    (State.reset.hostRead .bc 0x04 8).replies = [.hostFault] ∧ (State.reset.hostRead .bc 0x06 32).replies = [.hostFault] ∧
    (State.reset.hostWrite .bc 0x1000 32 1).replies = [.hostFault] ∧
    (State.reset.hostRead .bc 0x2000 16).replies = [.hostFault] := by decide +kernel

/-- V10.10, V10.12, V10.13: the acknowledge, and the written bits that do nothing. -/
theorem test_acknowledge :
    let s := (bcState (some zeroKey) 0 []).finishBc (.error .invalidPadding)
    s.statusWord .bc = 0x0E ∧ (s.hostWrite .bc 0x04 32 2).statusWord .bc = 0x0C ∧
    (s.hostWrite .bc 0x04 32 2).errcodeWord .bc = 4 ∧ (s.hostWrite .bc 0x04 32 0xFFFFFFFD).statusWord .bc = 0x0E ∧
    (s.hostWrite .bc 0x04 32 0x0F).statusWord .bc = 0x0C := by decide +kernel

/-- V10.16 to V10.20: the level interrupt line; while busy only `CTRL` takes a write, and `STATUS` reads 0x09. -/
theorem test_busy_and_irq :
    let s := (bcState (some zeroKey) 8 []).start .bc 0x04
    (s.hostWrite .bc 0x10 32 5).bc.shell = s.bc.shell ∧ (s.hostWrite .bc 0x00 32 1).bc.shell = s.bc.shell ∧
    (s.hostWrite .bc 0x0C 32 1).bc.shell.ie = true ∧ (s.hostRead .bc 0x04 32).replies = [.word 9] ∧
    (((State.reset.finishBc (.error .notKeyed)).hostWrite .bc 0x0C 32 1).irq .bc) = true := by decide +kernel

/-- V10.18 on `QR`, and the start step: a word of the other unit is started too (R104, R106). -/
theorem test_start_illegal_word :
    ((State.reset.hostWrite .qr 0x00 32 0x04).qr.shell.busy = true) ∧
    ∃ t, completeUnit .qr (State.reset.hostWrite .qr 0x00 32 0x04) = .next t ∧ t.errcodeWord .qr = 7 :=
  ⟨by decide +kernel, _, rfl, by decide +kernel⟩

/-- R108: both forms of `RB`; V8.40's first byte of `n` read back through the line. -/
theorem test_script_read_byte :
    scriptReadByte .qr .obuf 1 = [.read (.window .qr 0x2001) 8] ∧ scriptReadByte .bc .ibuf 2 = [.read (.window .bc 0x1002) 8] ∧
    (∃ t, step { qrState (some smallKey) 2 [(0, 0x41)] with schedule := [.host], script := scriptReadByte .qr .ibuf 0 } =
      .next t ∧ t.replies = [.byte 0x41]) := ⟨by decide, by decide, _, rfl, by decide +kernel⟩

/-- R109: `LOAD BC, 4142` and the command line of `BC.ENC`. -/
theorem test_script :
    scriptLoad .bc [0x41, 0x42] ++ scriptCommand .bcEnc =
      [.write (.window .bc 0x1000) 8 0x41, .write (.window .bc 0x1001) 8 0x42, .write (.window .bc 0x10) 32 2,
       .write (.window .bc 0x00) 32 0x04] := by decide +kernel

/-! ## Cases that meet the hypotheses of the statements -/

/-- Both units busy, each with the word of its `CLEAR`, and `BC`'s turn. -/
def busyState : State :=
  { (State.reset.start .bc 0x0F).start .qr 0x1F with schedule := [.unit .bc] }

/-- The host's turn with the given next action, `BC` busy, `QR` idle. -/
def hostState (op : HostOp) : State := { State.reset.start .bc 0x0F with schedule := [.host], script := [op] }

theorem witness_DecodeOfEncode :
    (Instr.qrKeygen 65535).wellFormed = true ∧ (Instr.qrIsprime 255).wellFormed = true ∧
    Instr.bcInit.wellFormed = true := by decide

theorem witness_EncodeOfDecode :
    decode .qr 0x00FFFF11 = .ok (.qrKeygen 65535) ∧ decode .bc 0x0000000F = .ok .bcClear := by decide

theorem witness_StepRunsLatchedCommand :
    busyState.currentAgent = .unit .bc ∧ (busyState.shell .bc).busy = true ∧
    decode .bc (busyState.shell .bc).cmdlatch = .ok .bcClear ∧ (∃ t, exec .bcClear busyState = .next t) ∧
    (∃ t, completeUnit .bc busyState = .next t) ∧ (State.reset.shell .qr).busy = false :=
  ⟨rfl, rfl, by decide, ⟨_, rfl⟩, ⟨_, rfl⟩, rfl⟩

theorem witness_PlacedWordRuns :
    decodeTableWord 32 0x0F = some .bcClear ∧ decodeTableWord 16 0xFF12 = some (.qrIsprime 255) ∧
    (∃ t, exec .bcClear (State.reset.withFetchWord 32 0x0F) = .next t) ∧
    ∃ t, exec (.qrIsprime 255) (State.reset.withFetchWord 16 0xFF12) = .next t :=
  ⟨by decide, by decide, ⟨_, rfl⟩, _, rfl⟩

/-- One case for the idle and one for the busy unit. -/
theorem witness_StartStep :
    let idle := hostState (.write (.window .qr 0x00) 32 0xFFFFFFFF)
    let busy := hostState (.write (.window .bc 0x00) 32 0x01)
    (idle.currentAgent = .host ∧ idle.script = .write (.window .qr 0x00) 32 0xFFFFFFFF :: [] ∧
      (idle.shell .qr).busy = false) ∧
    (busy.currentAgent = .host ∧ busy.script = .write (.window .bc 0x00) 32 0x01 :: [] ∧
      (busy.shell .bc).busy = true) := ⟨⟨rfl, rfl, rfl⟩, rfl, rfl, rfl⟩

theorem witness_IllegalWordFaults :
    let s := State.reset.start .bc 0x00000104
    (s.shell .bc).busy = true ∧ ¬ ∃ r ∈ opcodeMap, r.accepts .bc (s.shell .bc).cmdlatch = true :=
  ⟨rfl, by decide⟩

theorem witness_UnitsAreIndependent :
    (∃ t, completeUnit .bc busyState = .next t) ∧ (∃ t, completeUnit .qr busyState = .next t) ∧ UnitId.bc ≠ UnitId.qr :=
  ⟨⟨_, rfl⟩, ⟨_, rfl⟩, by decide⟩

theorem witness_CommandFrame :
    (∃ t, exec .bcClear State.reset = .next t) ∧ (∃ t, exec (.qrKeygen 16) State.reset = .next t) ∧
    (∀ k, Instr.bcClear ≠ .qrKeygen k) ∧ (∀ k, Instr.bcClear ≠ .qrIsprime k) :=
  ⟨⟨_, rfl⟩, ⟨_, rfl⟩, nofun, nofun⟩

theorem witness_WindowWidths :
    accepts 0x0006 32 = false ∧ accepts 0x0FFC 8 = false ∧ accepts 0x1000 32 = false ∧ accepts 0x2FFF 16 = false ∧
    accepts 0x3FFE 32 = false ∧ accepts 0x3FFF 64 = false := by decide

/-- The idle unit, the first and the last reserved offset of the registers, and both ends of the reserved quarter. -/
theorem witness_WindowReads :
    (State.reset.shell .qr).busy = false ∧ 0x18 ≤ (0x18 : BitVec 14).toNat ∧ (0x18 : BitVec 14).toNat % 4 = 0 ∧
    0x18 ≤ (0xFFC : BitVec 14).toNat ∧ (0xFFC : BitVec 14).toNat < 0x1000 ∧ (0xFFC : BitVec 14).toNat % 4 = 0 ∧
    0x3000 ≤ (0x3000 : BitVec 14).toNat ∧ (0x3000 : BitVec 14).toNat % 4 = 0 ∧
    0x3000 ≤ (0x3FFF : BitVec 14).toNat := by decide

/-- In the default configuration, both ends of what lies in neither window. -/
theorem witness_BusAddressesSelect :
    Params.default.legal ∧ (∀ u, 0x8000 < Params.default.base u ∨ Params.default.base u + 0x4000 ≤ 0x8000) ∧
    ∀ u, 0xFFFFFFFF < Params.default.base u ∨ Params.default.base u + 0x4000 ≤ 0xFFFFFFFF :=
  ⟨by decide, fun u => by cases u <;> decide, fun u => by cases u <;> decide⟩

theorem witness_RegisterWrites :
    (State.reset.shell .bc).busy = false ∧ UnitId.qr ≠ UnitId.bc ∧
    (0x18 : BitVec 14) ≠ 0x14 ∧ 0x18 ≤ (0x18 : BitVec 14).toNat ∧ (0xFFC : BitVec 14).toNat % 4 = 0 := by decide

/-- The first and the last byte of each buffer, the first unimplemented one of `QR`, and accepted accesses to the reserved
quarter. -/
theorem witness_BufferWrites :
    (State.reset.shell .bc).busy = false ∧ 0 < State.reset.params.bufSize .bc ∧ 4095 < State.reset.params.bufSize .bc ∧
    (State.reset.shell .qr).busy = false ∧ 0 < State.reset.params.bufSize .qr ∧ 511 < State.reset.params.bufSize .qr ∧
    State.reset.params.bufSize .qr ≤ 512 ∧ accepts 0x3000 32 = true ∧ accepts 0x3FFF 8 = true := by decide

/-- Plain accesses by window offset and by the last bus address of a window, one outside both, and no action. -/
theorem witness_HostWaits_accesses :
    (let s := hostState (.read (.window .qr 0x14) 32)
     s.currentAgent = .host ∧ s.script = .read (.window .qr 0x14) 32 :: []) ∧
    (let s := hostState (.write (.bus 0x7FFF) 8 1)
     s.currentAgent = .host ∧ s.script = .write (.bus 0x7FFF) 8 1 :: [] ∧
      selectWindow s.params 0x7FFF = some (.qr, 0x3FFF)) ∧
    (let s := hostState (.read (.bus 0x8000) 32)
     s.currentAgent = .host ∧ s.script = .read (.bus 0x8000) 32 :: [] ∧ selectWindow s.params 0x8000 = none) ∧
    (let s := { State.reset with schedule := [.host] }
     s.currentAgent = .host ∧ s.script = []) :=
  ⟨⟨rfl, rfl⟩, ⟨rfl, rfl, by decide +kernel⟩, ⟨rfl, rfl, by decide +kernel⟩, rfl, rfl⟩

/-- The two waits and the store of an idle unit, and of a busy one. -/
theorem witness_HostWaits :
    (let s := hostState (.waitIdle .bc)
     s.currentAgent = .host ∧ s.script = .waitIdle .bc :: [] ∧ (s.shell .bc).busy = true) ∧
    (let s := hostState (.waitIdle .qr)
     s.currentAgent = .host ∧ s.script = .waitIdle .qr :: [] ∧ (s.shell .qr).busy = false) ∧
    (let s := hostState (.waitIrq .bc)
     s.currentAgent = .host ∧ s.script = .waitIrq .bc :: [] ∧ s.irq .bc = false) ∧
    (let s := hostState (.store .qr)
     s.currentAgent = .host ∧ s.script = .store .qr :: [] ∧ (s.shell .qr).busy = false) ∧
    (let s := hostState (.store .bc)
     s.currentAgent = .host ∧ s.script = .store .bc :: [] ∧ (s.shell .bc).busy = true) :=
  ⟨⟨rfl, rfl, rfl⟩, ⟨rfl, rfl, rfl⟩, ⟨rfl, rfl, rfl⟩, ⟨rfl, rfl, rfl⟩, rfl, rfl, rfl⟩

theorem witness_ResetTurn :
    { busyState with schedule := [.reset] }.currentAgent = .reset ∧ busyState.bc.shell.busy = true := ⟨rfl, rfl⟩

/-- A word with its four bytes; tables and subkeys of zeros, where every round swaps the halves. -/
theorem witness_EncryptBlockClosedForm (i : Fin 16) :
    (0x01234567 : Word).toNat =
      (0x01 : Fin 256).val * 2 ^ 24 + (0x23 : Fin 256).val * 2 ^ 16 + (0x45 : Fin 256).val * 2 ^ 8 + (0x67 : Fin 256).val ∧
    (0 : Word) = (0 : Word) ^^^ zeroKey.P[i.val]'(by omega) ∧
    (0 : Word) = (0 : Word) ^^^ feistelF zeroKey.S ((0 : Word) ^^^ zeroKey.P[i.val]'(by omega)) := by
  revert i
  decide +kernel

/-- The shortest and the longest key. -/
theorem witness_BcInitResult :
    (let s := bcState none 1 []
     s.bc.key = none ∧ s.bc.shell.ilen ≠ 0 ∧ s.bc.shell.ilen.toNat ≤ s.params.bcBuf) ∧
    (let s := bcState none 4096 []
     s.bc.key = none ∧ s.bc.shell.ilen ≠ 0 ∧ s.bc.shell.ilen.toNat ≤ s.params.bcBuf) := by decide

theorem witness_KeyScheduleValue :
    (∀ j, j < 72 → keyByte [0] j = keyByte [0, 0] j) ∧ [(0x61 : Byte)] ≠ [] ∧
    72 ≤ (List.replicate 72 (0 : Byte)).length := by decide +kernel

theorem witness_OneBlockResult :
    (bcState (some zeroKey) 8 []).bc.key = some zeroKey ∧ (bcState (some zeroKey) 8 []).bc.shell.ilen = 8 := ⟨rfl, rfl⟩

theorem witness_PadUnpad :
    pad [] ≠ [] ∧ (pad []).length % 8 = 0 ∧ unpad (pad []) = .ok [] ∧
    ∀ out, unpad [0, 0, 0, 0, 0, 0, 0, 0] ≠ .ok out :=
  ⟨by decide, by decide, by decide, fun _ h => by
    have e : unpad [0, 0, 0, 0, 0, 0, 0, 0] = .error .invalidPadding := by decide
    exact absurd (e.symm.trans h) nofun⟩

/-- The empty message and the longest one. -/
theorem witness_BcEncResult :
    State.reset.params.legal ∧
    (bcState (some zeroKey) 0 []).bc.key = some zeroKey ∧ (0 : Word).toNat ≤ State.reset.params.bcBuf - 1 ∧
    (bcState (some zeroKey) 4095 []).bc.key = some zeroKey ∧
    (bcState (some zeroKey) 4095 []).bc.shell.ilen.toNat ≤ State.reset.params.bcBuf - 1 :=
  ⟨by decide, rfl, by decide, rfl, by decide⟩

theorem witness_BlocksIndependent :
    (List.replicate 16 (0 : Byte)).length % 8 = 0 ∧ 8 * 1 < (List.replicate 16 (0 : Byte)).length := by decide

/-- A block that decrypts to eight bytes 8, the empty message, and one that decrypts to seven bytes. -/
theorem witness_BcDecResult :
    (let s := bcState (some zeroKey) 8 ((List.range 8).map (fun i => (i, 8)))
     s.bc.key = some zeroKey ∧ s.bc.shell.ilen ≠ 0 ∧ s.bc.shell.ilen.toNat % 8 = 0 ∧
      s.bc.shell.ilen.toNat ≤ s.params.bcBuf ∧
      unpad (mapBlocks (decryptBlock zeroKey.P zeroKey.S) (s.operand .bc)) = .ok []) ∧
    (let s := bcState (some zeroKey) 8 ((List.range 8).map (fun i => (i, 1)))
     unpad (mapBlocks (decryptBlock zeroKey.P zeroKey.S) (s.operand .bc)) = .ok [1, 1, 1, 1, 1, 1, 1]) :=
  ⟨⟨rfl, by decide, by decide, by decide, by decide +kernel⟩, by decide +kernel⟩

theorem witness_BcCommandsPure :
    Instr.bcEncb.unit = .bc ∧ (∃ t, exec .bcEncb (bcState (some zeroKey) 8 []) = .next t) ∧
    ∃ t, exec .bcEncb { bcState (some zeroKey) 8 [] with qr := (qrState (some smallKey) 1 []).qr } = .next t :=
  ⟨rfl, ⟨_, rfl⟩, _, rfl⟩

theorem witness_KeysImmutable :
    (bcState (some zeroKey) 0 []).bc.key = some zeroKey ∧ (∃ t, exec .bcInit (bcState (some zeroKey) 0 []) = .next t) ∧
    (qrState (some smallKey) 0 []).qr.key = some smallKey ∧
    ∃ t, exec (.qrKeygen 16) (qrState (some smallKey) 0 []) = .next t := ⟨rfl, ⟨_, rfl⟩, rfl, _, rfl⟩

theorem witness_IntegerBytes : 1 ≤ 1 ∧ (1 : Byte) ≠ 0 ∧ Params.default.legal := by decide

theorem witness_ModExpValue : 1 ≤ 1 := by decide

theorem witness_EgcdBezout : (12 : Nat) ≠ 0 := by decide

/-- The pair `EGCD` gives (V7.13), and another. -/
theorem witness_BezoutPairUnobservable :
    0 < 7 ∧ 0 < 11 ∧ (-3 : Int) * (7 : Nat) + 2 * (11 : Nat) = 1 ∧ (8 : Int) * 7 + (-5) * 11 = 1 ∧
    (0 : Int) ≤ 56 ∧ (56 : Int) < ((7 * 11 : Nat) : Int) := by decide

theorem witness_DrawsAreLegal : 2 ≤ 2 ∧ 2 ≤ 249 ∧ 2 ≤ 8 ∧ IsCandidate 8 131 ∧ IsCandidate 8 255 ∧ IsCandidate 2 3 := by
  refine ⟨by decide, by decide, by decide, ⟨?_, by decide⟩, ⟨?_, by decide⟩, ⟨?_, by decide⟩⟩ <;> decide +kernel

theorem witness_DecomposeUnique : 3 ≤ 3 ∧ 3 % 2 = 1 ∧ 3 % 4 = 3 ∧ 3 ≤ 561 ∧ 561 % 2 = 1 := by decide

theorem witness_BasePassesMeaning : 5 ≤ 5 ∧ 1 ≤ 1 := by decide

/-- 561 with the base 50, which passes, then 2, which does not (V8.25). -/
theorem witness_MillerRabinDraws :
    5 ≤ 561 ∧ 561 % 2 = 1 ∧
    (let e : Entropy := { answers := [50, 2], given := 0 }
     GoodBase 561 ((e.after 0).draw 2 559).1 ∧ BadBase 561 ((e.after 1).draw 2 559).1) := by
  refine ⟨by decide, by decide, ⟨?_, ?_, ?_⟩, ⟨?_, ?_, ?_⟩⟩ <;> decide +kernel

theorem witness_PrimesAlwaysPass : Nat.Prime 251 := by norm_num

theorem witness_QrIsprimeResult :
    (0 : Word).toNat ≤ State.reset.params.qrBuf ∧ (qrState none 512 []).qr.shell.ilen.toNat ≤ State.reset.params.qrBuf := by decide

/-- The draws of V8.40 are those of two runs of `GenPrime`. -/
theorem witness_GenPrime :
    GenPrime 8 [255, 2, 251, 2, 3, 5, 7, 11] 251 ∧ GenPrime 8 [243, 2, 239, 2, 3, 5, 7, 11] 239 := by
  have c : ∀ x ∈ [255, 251, 243, 239], IsCandidate 8 x := by unfold IsCandidate; decide +kernel
  have g : (∀ a ∈ [2, 3, 5, 7, 11], GoodBase 251 a) ∧ ∀ a ∈ [2, 3, 5, 7, 11], GoodBase 239 a := by
    unfold GoodBase; decide +kernel
  have b : BadBase 255 2 ∧ BadBase 243 2 := by unfold BadBase; decide +kernel
  exact ⟨.reject 255 [] 2 _ 251 (c 255 (by decide)) (by decide) nofun b.1
      (.accept 251 [2, 3, 5, 7, 11] (c 251 (by decide)) rfl g.1),
    .reject 243 [] 2 _ 239 (c 243 (by decide)) (by decide) nofun b.2
      (.accept 239 [2, 3, 5, 7, 11] (c 239 (by decide)) rfl g.2)⟩

theorem witness_QrKeygenResult :
    let ps := [255, 2, 251, 2, 3, 5, 7, 11]
    let qs := [243, 2, 239, 2, 3, 5, 7, 11]
    let s := drawing (ps ++ qs ++ [])
    s.qr.key = none ∧ s.qr.found = none ∧ 16 % 2 = 0 ∧ 16 ≤ 16 ∧ 16 ≤ s.params.qrKmax ∧
    GenPrime (16 / 2) ps 251 ∧ GenPrime (16 / 2) qs 239 ∧ s.entropy.answers = ps ++ qs ++ [] ∧
    (laterTurn qs).qr.key = none ∧ (laterTurn qs).qr.found = some 251 ∧ (laterTurn qs).entropy.answers = qs ++ [] :=
  ⟨rfl, rfl, by decide, by decide, by decide, witness_GenPrime.1, witness_GenPrime.2, rfl, rfl, rfl, rfl⟩

/-- A later turn of `QR.KEYGEN 16` as `KeygenTurn` says it. -/
theorem witness_laterTurn :
    (laterTurn [239, 2, 3, 5, 7, 11]).Inv ∧ (laterTurn [239, 2, 3, 5, 7, 11]).KeygenTurn 16 := by
  have g : ∀ a ∈ [2, 3, 5, 7, 11], GoodBase 251 a := by unfold GoodBase; decide +kernel
  have c : IsCandidate 8 251 := ⟨by decide +kernel, by decide⟩
  have inv : (laterTurn [239, 2, 3, 5, 7, 11]).Inv := by
    refine ⟨by decide, ?_, ?_, nofun, fun p h => ?_⟩
    · exact ⟨List.Pairwise.nil, List.Pairwise.nil, nofun, nofun, nofun, fun _ => rfl, nofun, by decide⟩
    · exact ⟨List.Pairwise.nil, List.Pairwise.nil, nofun, nofun, fun _ => ⟨rfl, rfl⟩, fun _ => rfl, nofun, by decide⟩
    · obtain rfl : 251 = p := Option.some.inj h
      exact ⟨rfl, rfl, 16, by decide, by decide, c, [2, 3, 5, 7, 11], rfl, g⟩
  exact ⟨inv, .inr ⟨inv, by decide⟩⟩

/-- A search that one turn completes, and one that a later turn completes. -/
theorem witness_QrKeygenGuarantees :
    (let s := drawing [255, 2, 251, 2, 3, 5, 7, 11, 243, 2, 239, 2, 3, 5, 7, 11, 99]
     s.qr.key = none ∧ s.KeygenTurn 16 ∧ ∃ t, exec (.qrKeygen 16) s = .next t ∧ t.qr.key = some smallKey) ∧
    (let s := laterTurn [239, 2, 3, 5, 7, 11]
     s.qr.key = none ∧ s.KeygenTurn 16 ∧ ∃ t, exec (.qrKeygen 16) s = .next t ∧ t.qr.key = some smallKey) :=
  ⟨⟨rfl, .inl rfl, _, rfl, by decide +kernel⟩, rfl, witness_laterTurn.2, _, rfl, by decide +kernel⟩

/-- Two different primes, and one prime twice (R43). -/
theorem witness_QrKeygenEveryPair :
    State.reset.qr.key = none ∧ State.reset.qr.found = none ∧ ProbablePrime (16 / 2) 251 ∧ ProbablePrime (16 / 2) 239 := by
  have g : (∀ a ∈ [2, 3, 5, 7, 11], GoodBase 251 a) ∧ ∀ a ∈ [2, 3, 5, 7, 11], GoodBase 239 a := by
    unfold GoodBase; decide +kernel
  refine ⟨rfl, rfl, ⟨⟨?_, by decide⟩, [2, 3, 5, 7, 11], rfl, g.1⟩, ⟨?_, by decide⟩, [2, 3, 5, 7, 11], rfl, g.2⟩ <;>
    decide +kernel

/-- With no answer listed a step tries one candidate, so it cannot find both primes. -/
theorem witness_QrKeygenSearchLeavesNoTrace :
    let s := State.reset.start .qr 0x00001011
    s.qr.shell.busy = true ∧ ∃ t, exec (.qrKeygen 16) s = .next t ∧ t.qr.shell.busy = true := by
  refine ⟨rfl, _, rfl, ?_⟩
  have h : badKeySize Params.default 16 = false := by decide
  simp only [keygenStep, State.start, State.reset, QrUnit.reset, h, Entropy.tries, List.length_nil, Nat.zero_add,
    searchPrimes]
  by_cases b : (isProbablyPrime ((Entropy.mk [] 0).drawCandidate (16 / 2)).1 Config.mrRounds
      ((Entropy.mk [] 0).drawCandidate (16 / 2)).2).1 = true <;> simp [b, Shell.start]

theorem witness_QrReadOutResult : (qrState (some smallKey) 0 []).qr.key = some smallKey := rfl

theorem witness_QrEncResult :
    let s := qrState (some smallKey) 1 [(0, 0x41)]
    s.qr.key = some smallKey ∧ s.qr.shell.ilen.toNat ≤ s.params.qrBuf ∧ encodeMessage (s.operand .qr) < smallKey.n := by
  decide +kernel

/-- The empty message, of `16/8 - 2` bytes; the keys are those of `witness_QrKeygenGuarantees`. -/
theorem witness_ShortMessagesFit :
    (∃ t, exec (.qrKeygen 16) (laterTurn [239, 2, 3, 5, 7, 11]) = .next t ∧ t.qr.key = some smallKey) ∧
    ([] : List Byte).length + 2 ≤ 16 / 8 := ⟨witness_QrKeygenGuarantees.2.2.2, by decide⟩

theorem witness_RootsAreAllSquareRoots :
    Nat.Prime 251 ∧ Nat.Prime 239 ∧ 251 ≠ 239 ∧ 251 % 4 = 3 ∧ 239 % 4 = 3 ∧
    (∃ y, y * y % (251 * 239) = 48186 % (251 * 239)) ∧ 16705 < 251 * 239 :=
  ⟨by norm_num, by norm_num, by decide, by decide, by decide, ⟨16705, by norm_num⟩, by decide⟩

theorem witness_RootsReduceCiphertext : 0 < 1 := by decide

/-- V9.1: two candidates are passed by before the third is taken. -/
theorem witness_QrDecResult :
    let s := qrState (some smallKey) 2 [(0, 0xBC), (1, 0x3A)]
    s.qr.key = some smallKey ∧ s.qr.shell.ilen.toNat ≤ s.params.qrBuf ∧
    roots smallKey.p smallKey.q (os2ip (s.operand .qr)) = [43284, 27749] ++ 16705 :: [32240] ∧
    (∀ x ∈ [43284, 27749], (i2osp s.params.qrZeroLen x).length < 2 ∨
      ∃ d rest, i2osp s.params.qrZeroLen x = d :: rest ∧ d ≠ sum8 rest) ∧
    i2osp s.params.qrZeroLen 16705 = 0x41 :: [0x41] ∧ [(0x41 : Byte)] ≠ [] ∧ (0x41 : Byte) = sum8 [0x41] := by
  refine ⟨rfl, by decide, by decide +kernel, ?_, by decide +kernel, by decide, by decide⟩
  intro x hx
  rcases List.mem_pair.mp hx with rfl | rfl
  · exact .inr ⟨0xA9, [0x14], by decide +kernel, by decide⟩
  · exact .inr ⟨0x6C, [0x65], by decide +kernel, by decide⟩

theorem witness_QrRoundTripExactly :
    let s := qrState (some smallKey) 2 [(0, 0xBC), (1, 0x3A)]
    s.params.legal ∧ s.qr.key = some smallKey ∧ smallKey.p.Prime ∧ smallKey.q.Prime ∧ smallKey.p ≠ smallKey.q ∧ smallKey.p % 4 = 3 ∧
    smallKey.q % 4 = 3 ∧ smallKey.n = smallKey.p * smallKey.q ∧ smallKey.n < 2 ^ s.params.qrKmax ∧
    [(0x41 : Byte)].length ≤ s.params.qrBuf ∧ encodeMessage [0x41] < smallKey.n ∧ s.qr.shell.ilen.toNat ≤ s.params.qrBuf ∧
    s.operand .qr = i2osp s.params.qrZeroLen (encodeMessage [0x41] * encodeMessage [0x41] % smallKey.n) := by
  refine ⟨by decide, rfl, ?_, ?_, ?_, ?_, ?_, ?_, ?_, ?_, ?_, ?_, ?_⟩
  · norm_num [smallKey]
  · norm_num [smallKey]
  all_goals decide +kernel

theorem witness_KeyStateFaults :
    (bcState (some zeroKey) 0 []).bc.key ≠ none ∧ (qrState (some smallKey) 0 []).qr.key ≠ none ∧
    State.reset.bc.key = none ∧ State.reset.qr.key = none := ⟨nofun, nofun, rfl, rfl⟩

/-- One case for each clause, next to its boundary. -/
theorem witness_ArgumentFaults :
    ((bcState none 0 []).bc.key = none ∧ (bcState none 0 []).bc.shell.ilen = 0) ∧
    (State.reset.params.bcBuf < (bcState none 4097 []).bc.shell.ilen.toNat) ∧
    ((bcState (some zeroKey) 9 []).bc.key ≠ none ∧ (bcState (some zeroKey) 9 []).bc.shell.ilen ≠ 8) ∧
    (State.reset.params.bcBuf - 1 < (bcState (some zeroKey) 4096 []).bc.shell.ilen.toNat) ∧
    ((bcState (some zeroKey) 0 []).bc.shell.ilen = 0 ∧ (bcState (some zeroKey) 12 []).bc.shell.ilen.toNat % 8 ≠ 0 ∧
      State.reset.params.bcBuf < (bcState (some zeroKey) 4104 []).bc.shell.ilen.toNat) ∧
    (State.reset.params.qrBuf < (qrState none 513 []).qr.shell.ilen.toNat) ∧
    ((qrState (some smallKey) 513 []).qr.key ≠ none) ∧
    ((qrState none 0 []).qr.key = none ∧ 17 % 2 ≠ 0 ∧ 14 < 16 ∧ State.reset.params.qrKmax < 4098) := by
  refine ⟨by decide, by decide, ⟨nofun, by decide⟩, by decide, by decide, by decide, nofun, by decide⟩

/-- A last byte that is no pad count, a message beyond the modulus, and a ciphertext without a root (V9.40). -/
theorem witness_DataFaults :
    (let s := bcState (some zeroKey) 8 ((List.range 8).map (fun i => (i, 0)))
     mapBlocks (decryptBlock zeroKey.P zeroKey.S) (s.operand .bc) = List.replicate 8 0 ∧
      ∀ out n, 1 ≤ n → n ≤ 8 →
        mapBlocks (decryptBlock zeroKey.P zeroKey.S) (s.operand .bc) ≠ out ++ List.replicate n (BitVec.ofNat 8 n)) ∧
    (smallKey.n ≤ encodeMessage ((qrState (some smallKey) 1 [(0, 0xEA)]).operand .qr)) ∧
    (let s := qrState (some smallKey) 1 [(0, 0x02)]
     ∀ r ∈ roots smallKey.p smallKey.q (os2ip (s.operand .qr)),
      (i2osp s.params.qrZeroLen r).length < 2 ∨ ∃ d rest, i2osp s.params.qrZeroLen r = d :: rest ∧ d ≠ sum8 rest) := by
  have e : mapBlocks (decryptBlock zeroKey.P zeroKey.S)
      ((bcState (some zeroKey) 8 ((List.range 8).map (fun i => (i, 0)))).operand .bc) = List.replicate 8 0 := by
    decide +kernel
  have r : roots smallKey.p smallKey.q (os2ip ((qrState (some smallKey) 1 [(0, 0x02)]).operand .qr)) =
      [0xD272, 0x9D3B, 0x17E3, 0x4D1A] := by decide +kernel
  refine ⟨⟨e, ?_⟩, by decide +kernel, ?_⟩
  · intro out n h1 h8 h
    rw [e] at h
    have hm : BitVec.ofNat 8 n ∈ List.replicate 8 (0 : Byte) := by
      rw [h]; exact List.mem_append_right _ (List.mem_replicate.mpr ⟨by omega, rfl⟩)
    have hz := congrArg BitVec.toNat (List.eq_of_mem_replicate hm)
    rw [BitVec.toNat_ofNat] at hz
    simp at hz
    omega
  · intro s x hx
    rw [r] at hx
    fin_cases hx
    · exact .inr ⟨0xD2, [0x72], by decide +kernel, by decide⟩
    · exact .inr ⟨0x9D, [0x3B], by decide +kernel, by decide⟩
    · exact .inr ⟨0x17, [0xE3], by decide +kernel, by decide⟩
    · exact .inr ⟨0x4D, [0x1A], by decide +kernel, by decide⟩

theorem witness_EveryFaultIsPrecise :
    ∃ t, exec .bcEncb State.reset = .next t ∧ (State.reset.shell .bc).err = false ∧ (t.shell .bc).err = true :=
  ⟨_, rfl, rfl, rfl⟩

/-- A one-byte key, then the empty message, then its ciphertext copied from `OBUF` to `IBUF`. -/
theorem witness_BcMessageRoundTrip :
    let s₁ := bcState none 1 []
    s₁.params.legal ∧ s₁.bc.key = none ∧ s₁.bc.shell.ilen ≠ 0 ∧ s₁.bc.shell.ilen.toNat ≤ s₁.params.bcBuf ∧
    ∃ t₁, exec .bcInit s₁ = .next t₁ ∧
      ∃ s₂ : State, s₂.params = s₁.params ∧ s₂.bc.key = t₁.bc.key ∧ s₂.bc.shell.ilen.toNat ≤ s₁.params.bcBuf - 1 ∧
        ∃ t₂, exec .bcEnc s₂ = .next t₂ ∧
          ∃ s₃ : State, s₃.params = s₁.params ∧ s₃.bc.key = t₂.bc.key ∧ s₃.bc.shell.ilen = t₂.bc.shell.olen ∧
            ∀ i, i < t₂.bc.shell.olen.toNat → s₃.bufByte .bc .ibuf i = t₂.bufByte .bc .obuf i := by
  refine ⟨by decide, rfl, by decide, by decide, _, rfl, bcState (bcState none 1 [] |>.finishBc (bcInitRule (bcState none 1 []))).bc.key 0 [],
    rfl, rfl, by decide, _, rfl, ?_⟩
  generalize h : (bcState _ 0 []).finishBc _ = t₂
  refine ⟨bcState t₂.bc.key t₂.bc.shell.olen
    (Memory.write [] 0 ((List.range t₂.bc.shell.olen.toNat).map (t₂.bufByte .bc .obuf))), rfl, rfl, rfl, ?_⟩
  intro i hi
  have hf := find_write [] 0 ((List.range t₂.bc.shell.olen.toNat).map (t₂.bufByte .bc .obuf)) i
  have hb : (bcState t₂.bc.key t₂.bc.shell.olen
    (Memory.write [] 0 ((List.range t₂.bc.shell.olen.toNat).map (t₂.bufByte .bc .obuf)))).bufByte .bc .ibuf i =
    (Memory.find (Memory.write [] 0 ((List.range t₂.bc.shell.olen.toNat).map (t₂.bufByte .bc .obuf))) i).getD
      (Config.resetByte 0 .bc .ibuf i) := rfl
  rw [hb, hf]
  simp [hi]

/-- The smallest legal configuration, with tables of zeros. -/
def smallParams : Params :=
  { bcBuf := 8, qrKmax := 16, qrZeroLen := 1, baseBc := 0x10004000, baseQr := 0x10000000,
    piP := ⟨List.replicate 18 0, List.length_replicate⟩,
    piS := Vector.replicate 4 ⟨List.replicate 256 0, List.length_replicate⟩ }

/-- R7, R50 in the smallest configuration: 9 key bytes, a 2-byte `QR` buffer, and 18 key bits are too many. -/
theorem test_small_configuration :
    (∃ t, exec .bcInit { bcState none 9 [] with params := smallParams } = .next t ∧ t.errcodeWord .bc = 5) ∧
    (∃ t, exec .qrEnc { qrState (some smallKey) 3 [] with params := smallParams } = .next t ∧ t.errcodeWord .qr = 5) ∧
    (∃ t, exec (.qrKeygen 18) { State.reset with params := smallParams } = .next t ∧ t.errcodeWord .qr = 8) :=
  ⟨⟨_, rfl, by decide⟩, ⟨_, rfl, by decide⟩, _, rfl, by decide⟩

theorem witness_ResetKeepsInvariant : smallParams.legal := by decide

/-- A unit with a command in flight, after a write to its input buffer. -/
theorem witness_StepKeepsInvariant :
    busyState.Inv ∧ ∃ t, step busyState = .next t := by
  refine ⟨⟨by decide, ?_, ?_, nofun, nofun⟩, _, rfl⟩ <;>
  exact ⟨List.Pairwise.nil, List.Pairwise.nil, nofun, nofun, fun _ => ⟨rfl, rfl⟩, fun _ => rfl, nofun, by decide⟩

/-- Accesses to a busy unit in a reachable state; the last one is a free read. -/
theorem witness_BusyAccesses :
    busyState.Inv ∧ (busyState.shell .bc).busy = true ∧ accepts 0x0000 32 = true ∧ accepts 0x1000 8 = true ∧ accepts 0x3FFF 8 = true ∧
    accepts 0x000C 32 = true ∧ (0x1000 : BitVec 14) ≠ 0x0C ∧ (0x3FFF : BitVec 14) ≠ 0x04 ∧ (0x3FFF : BitVec 14) ≠ 0x0C :=
  ⟨witness_StepKeepsInvariant.1, by decide⟩

/-- A host with an access by window offset, and one by the first bus address of a window, to come. -/
theorem witness_SafeMachinesGoOn :
    State.Safe { State.reset with
      script := [.write (.window .bc 0) 32 1, .waitIdle .bc, .read (.bus (State.reset.params.base .bc)) 32] } := by
  intro op h
  fin_cases h
  · exact ⟨_, rfl⟩
  · exact trivial
  · exact ⟨(.bc, 0), rfl⟩

end Sys2Proof.Tests
end

section
/-! SUPPORT. Integers and their bytes, blocks, draws: the facts about the pure functions. -/

namespace Sys2Proof.Machine

/-! ## Integers and their big-endian bytes -/

/-- R10: `bitlen` counts the bits. -/
theorem bitlen_le_iff (x n : Nat) : bitlen x ≤ n ↔ x < 2 ^ n :=
  ⟨fun h => lt_of_lt_of_le (lt_two_pow_bitlen x) (Nat.pow_le_pow_right (by decide) h), bitlen_le x n⟩

theorem lt_bitlen_iff (x n : Nat) : n < bitlen x ↔ 2 ^ n ≤ x := by
  have := bitlen_le_iff x n
  omega

/-- A number of `b + 1` bits. -/
theorem bitlen_eq_succ (x b : Nat) (low : 2 ^ b ≤ x) (high : x < 2 ^ (b + 1)) : bitlen x = b + 1 :=
  Nat.le_antisymm (bitlen_le x _ high) ((lt_bitlen_iff x b).mpr low)

theorem pow_256_eq (n : Nat) : 256 ^ n = 2 ^ (8 * n) := by rw [Nat.pow_mul]

@[simp] theorem os2ip_nil : os2ip [] = 0 := rfl

/-- A last byte is the least significant digit. -/
theorem os2ip_concat (b : List Byte) (v : Byte) : os2ip (b ++ [v]) = os2ip b * 256 + v.toNat := by
  simp [os2ip]

/-- R191: a first byte is the most significant digit. -/
theorem os2ip_cons (v : Byte) (b : List Byte) : os2ip (v :: b) = v.toNat * 256 ^ b.length + os2ip b := by
  induction b using List.reverseRecOn with
  | nil => simp [os2ip]
  | append_singleton b w ih =>
    rw [← List.cons_append, os2ip_concat, os2ip_concat, ih, List.length_append, List.length_singleton, Nat.pow_succ]
    ring

theorem os2ip_lt (b : List Byte) : os2ip b < 256 ^ b.length := by
  induction b with
  | nil => simp
  | cons v b ih =>
    have hv : (v.toNat + 1) * 256 ^ b.length ≤ 256 * 256 ^ b.length := Nat.mul_le_mul_right _ v.isLt
    rw [os2ip_cons, List.length_cons, Nat.pow_succ]
    linarith

/-- The low bytes of a number give its remainder. -/
theorem os2ip_beBytes (len x : Nat) : os2ip (beBytes len x) = x % 256 ^ len := by
  induction len generalizing x with
  | zero => simp [beBytes, Nat.mod_one]
  | succ len ih =>
    rw [beBytes, os2ip_concat, ih, BitVec.toNat_ofNat, Nat.pow_succ' (m := 256),
      Nat.mod_mul (x := x) (a := 256) (b := 256 ^ len)]
    omega

/-- A byte sequence is the low bytes of its value. -/
theorem beBytes_os2ip (b : List Byte) : beBytes b.length (os2ip b) = b := by
  induction b using List.reverseRecOn with
  | nil => rfl
  | append_singleton b v ih =>
    have hq : (os2ip b * 256 + v.toNat) / 256 = os2ip b := by have := v.isLt; omega
    have hr : BitVec.ofNat 8 (os2ip b * 256 + v.toNat) = v := by
      apply BitVec.eq_of_toNat_eq
      have := v.isLt
      rw [BitVec.toNat_ofNat]
      omega
    rw [List.length_append, List.length_singleton, os2ip_concat, beBytes, hq, hr, ih]

/-- The first of the low bytes is the most significant one. -/
theorem beBytes_succ_cons (len x : Nat) : beBytes (len + 1) x = BitVec.ofNat 8 (x / 256 ^ len) :: beBytes len x := by
  induction len generalizing x with
  | zero => simp [beBytes]
  | succ len ih =>
    calc beBytes (len + 2) x
        = beBytes (len + 1) (x / 256) ++ [BitVec.ofNat 8 x] := rfl
      _ = BitVec.ofNat 8 (x / 256 / 256 ^ len) :: beBytes (len + 1) x := by rw [ih, List.cons_append]; rfl
      _ = BitVec.ofNat 8 (x / 256 ^ (len + 1)) :: beBytes (len + 1) x := by rw [Nat.div_div_eq_div_mul, Nat.pow_succ']

theorem i2osp_zero (z : Nat) : i2osp z 0 = List.replicate z 0 := rfl

theorem i2osp_pos (z x : Nat) (h : 1 ≤ x) : i2osp z x = beBytes ((bitlen x + 7) / 8) x := if_neg (by omega)

theorem os2ip_replicate_zero (z : Nat) : os2ip (List.replicate z 0) = 0 := by
  induction z with
  | zero => rfl
  | succ z ih => rw [List.replicate_succ, os2ip_cons, ih, show (0 : Byte).toNat = 0 from rfl, Nat.zero_mul]

/-- R192: `OS2IP` undoes `I2OSP`. -/
theorem os2ip_i2osp (z x : Nat) : os2ip (i2osp z x) = x := by
  rcases Nat.eq_zero_or_pos x with rfl | h
  · rw [i2osp_zero, os2ip_replicate_zero]
  · rw [i2osp_pos z x h, os2ip_beBytes, pow_256_eq]
    exact Nat.mod_eq_of_lt ((bitlen_le_iff x _).mp (by omega))

/-- The number of bytes of a number, by the powers of 256 it lies between. -/
theorem byteLen_eq_succ (x n : Nat) (low : 256 ^ n ≤ x) (high : x < 256 ^ (n + 1)) : (bitlen x + 7) / 8 = n + 1 := by
  rw [pow_256_eq, ← lt_bitlen_iff] at low
  rw [pow_256_eq, ← bitlen_le_iff] at high
  omega

/-- R192: the serialisation of a positive number has no leading byte 0. -/
theorem i2osp_head (z x : Nat) (h : 1 ≤ x) : ∃ v, (i2osp z x).head? = some v ∧ v ≠ 0 := by
  have hpos : 0 < bitlen x := (lt_bitlen_iff x 0).mpr h
  obtain ⟨n, hn⟩ : ∃ n, (bitlen x + 7) / 8 = n + 1 := ⟨(bitlen x + 7) / 8 - 1, by omega⟩
  have low : 256 ^ n ≤ x := by rw [pow_256_eq, ← lt_bitlen_iff]; omega
  have high : x < 256 ^ n * 256 := by rw [← Nat.pow_succ, pow_256_eq, ← bitlen_le_iff]; omega
  refine ⟨BitVec.ofNat 8 (x / 256 ^ n), by rw [i2osp_pos z x h, hn, beBytes_succ_cons, List.head?_cons], fun h0 => ?_⟩
  have top : x / 256 ^ n < 256 := Nat.div_lt_of_lt_mul high
  have top' : 0 < x / 256 ^ n := Nat.div_pos low (Nat.pow_pos (by decide))
  have := congrArg BitVec.toNat h0
  rw [BitVec.toNat_ofNat, show (0 : Byte).toNat = 0 from rfl] at this
  omega

/-- R192: `I2OSP` undoes `OS2IP` where the first byte is not 0. -/
theorem i2osp_os2ip (z : Nat) (v : Byte) (b : List Byte) (hv : v ≠ 0) : i2osp z (os2ip (v :: b)) = v :: b := by
  have hv' : 1 ≤ v.toNat := Nat.pos_of_ne_zero fun h => hv (BitVec.eq_of_toNat_eq h)
  have low : 256 ^ b.length ≤ os2ip (v :: b) := by
    rw [os2ip_cons]
    exact le_add_right (Nat.le_mul_of_pos_left _ hv')
  have pos : 1 ≤ os2ip (v :: b) := le_trans (Nat.pow_pos (by decide)) low
  rw [i2osp_pos z _ pos, byteLen_eq_succ _ _ low (os2ip_lt (v :: b)), ← List.length_cons (a := v), beBytes_os2ip]

/-- The checksum's running sum. -/
theorem toNat_foldl_add (b : List Byte) (acc : Byte) :
    (b.foldl (· + ·) acc).toNat = (acc.toNat + (b.map BitVec.toNat).sum) % 256 := by
  induction b generalizing acc with
  | nil => simp [Nat.mod_eq_of_lt acc.isLt]
  | cons v b ih =>
    rw [List.foldl_cons, ih, BitVec.toNat_add, List.map_cons, List.sum_cons]
    omega

/-- R196: `sum8` is the sum of the bytes modulo 256. -/
theorem sum8_toNat (b : List Byte) : (sum8 b).toNat = (b.map BitVec.toNat).sum % 256 := by
  simpa [sum8] using toNat_foldl_add b 0

/-- Settles O33: digits by induction on the bytes, minimality from the powers of 256 a number lies between. -/
theorem integerBytes : Obligations.IntegerBytes := by
  refine ⟨bitlen_le_iff, ⟨os2ip_nil, os2ip_cons⟩, os2ip_i2osp, fun z x h => ⟨?_, i2osp_head z x h⟩, i2osp_zero, ?_,
    i2osp_os2ip, ?_, sum8_toNat, fun msg => os2ip_cons _ _⟩
  · rw [i2osp_pos z x h, beBytes_length]
  · rintro p ⟨-, -, hz, -⟩
    omega
  · intro b
    simp [os2ip_cons]

/-! ## Draws -/

/-- R12: a draw lies in its range. -/
theorem inRange_mem (lo hi a : Nat) (h : lo ≤ hi) : lo ≤ inRange lo hi a ∧ inRange lo hi a ≤ hi := by
  unfold inRange
  split
  case isTrue ha => exact ha
  case isFalse =>
    have := Nat.mod_lt a (show 0 < hi - lo + 1 by omega)
    omega

theorem inRange_of_mem (lo hi a : Nat) (hlo : lo ≤ a) (hhi : a ≤ hi) : inRange lo hi a = a := if_pos ⟨hlo, hhi⟩

theorem inCandidates_of_isCandidate (b c : Nat) (h : IsCandidate b c) : inCandidates b c = c := if_pos h

/-- The number the model makes from an answer that is no candidate: top bit 1, the last two bits 1. -/
theorem isCandidate_made (n a : Nat) : IsCandidate (n + 3) (2 ^ (n + 2) + 4 * (a % 2 ^ n) + 3) := by
  have hr : a % 2 ^ n < 2 ^ n := Nat.mod_lt a (Nat.pow_pos (by decide))
  have h2 : 2 ^ (n + 2) = 4 * 2 ^ n := by ring
  have h3 : 2 ^ (n + 3) = 8 * 2 ^ n := by ring
  exact ⟨bitlen_eq_succ _ _ (by omega) (by omega), by omega⟩

/-- R12: a drawn candidate has `b` bits and is 3 modulo 4. -/
theorem inCandidates_isCandidate (b a : Nat) (h : 2 ≤ b) : IsCandidate b (inCandidates b a) := by
  unfold inCandidates
  split
  case isTrue ha => exact ha
  case isFalse =>
    split
    case isTrue hb =>
      obtain rfl : b = 2 := by omega
      exact ⟨by decide, rfl⟩
    case isFalse hb =>
      obtain ⟨n, rfl⟩ : ∃ n, b = n + 3 := ⟨b - 3, by omega⟩
      exact isCandidate_made n a

/-- Settles O37, by the branches of `inRange` and `inCandidates`. -/
theorem drawsAreLegal : Obligations.DrawsAreLegal :=
  ⟨inRange_mem, inRange_of_mem, inCandidates_isCandidate, inCandidates_of_isCandidate⟩

/-! ## Words, bytes and blocks -/

/-- Appending a byte below a bit vector. -/
theorem toNat_append_byte {n : Nat} (x : BitVec n) (v : Byte) : (x ++ v).toNat = x.toNat * 2 ^ 8 + v.toNat := by
  rw [BitVec.toNat_append, ← Nat.shiftLeft_add_eq_or_of_lt v.isLt, Nat.shiftLeft_eq]

/-- R9: the first of four bytes is the most significant one of their word. -/
theorem beWord_toNat (a b c d : Byte) :
    (beWord a b c d).toNat = a.toNat * 2 ^ 24 + b.toNat * 2 ^ 16 + c.toNat * 2 ^ 8 + d.toNat := by
  simp only [beWord, toNat_append_byte]
  ring

/-- R9: the bytes of a word made of four bytes. -/
theorem bytes32_beWord (a b c d : Byte) : bytes32 (beWord a b c d) = [a, b, c, d] := by
  have h : ∀ (k : Nat) (v : Byte), (beWord a b c d).toNat / 2 ^ k % 2 ^ 8 = v.toNat →
      (beWord a b c d).extractLsb' k 8 = v := fun k v e => by
    apply BitVec.eq_of_toNat_eq
    rw [BitVec.extractLsb'_toNat, Nat.shiftRight_eq_div_pow, e]
  have ha := a.isLt
  have hb := b.isLt
  have hc := c.isLt
  have hd := d.isLt
  rw [bytes32, h 24 a (by rw [beWord_toNat]; omega), h 16 b (by rw [beWord_toNat]; omega),
    h 8 c (by rw [beWord_toNat]; omega), h 0 d (by rw [beWord_toNat]; omega)]

theorem blockBytes_beWord (a b c d e f g h : Byte) :
    blockBytes (beWord a b c d, beWord e f g h) = [a, b, c, d, e, f, g, h] := by
  rw [blockBytes, bytes32_beWord, bytes32_beWord]
  rfl

@[simp] theorem blockBytes_length (lr : Word × Word) : (blockBytes lr).length = 8 := rfl

/-- The bytes that `f` makes of block `j` of a byte sequence. -/
def blockResult (f : Word → Word → Word × Word) (x : List Byte) (j : Nat) : List Byte :=
  let b := fun i => x.getD (8 * j + i) 0
  blockBytes (f (beWord (b 0) (b 1) (b 2) (b 3)) (beWord (b 4) (b 5) (b 6) (b 7)))

/-- Past a first block, the blocks are those of the rest. -/
theorem blockResult_succ (f : Word → Word → Word × Word) (a b c d e g h i : Byte) (rest : List Byte) (j : Nat) :
    blockResult f (a :: b :: c :: d :: e :: g :: h :: i :: rest) (j + 1) = blockResult f rest j := by
  have shift (k : Nat) : (a :: b :: c :: d :: e :: g :: h :: i :: rest).getD (8 * (j + 1) + k) 0 = rest.getD (8 * j + k) 0 := by
    rw [show 8 * (j + 1) + k = 8 * j + k + 8 by ring]
    rfl
  simp only [blockResult, shift]

/-- R76, R173: block `j` of the result is made of block `j` of the input alone. -/
theorem block_of_mapBlocks (f : Word → Word → Word × Word) (x : List Byte) (j : Nat) (hx : 8 * j + 8 ≤ x.length) :
    ((mapBlocks f x).drop (8 * j)).take 8 = blockResult f x j := by
  induction x using mapBlocks.induct generalizing j with
  | case1 a b c d e g h i rest ih =>
    rw [mapBlocks]
    cases j with
    | zero => exact List.take_left' (blockBytes_length _)
    | succ j =>
      have hrest : 8 * j + 8 ≤ rest.length := by
        simp only [List.length_cons] at hx
        omega
      rw [blockResult_succ, ← ih j hrest, show 8 * (j + 1) = 8 + 8 * j by ring, ← List.drop_drop,
        List.drop_left' (blockBytes_length _)]
  | case2 x short =>
    have empty : mapBlocks f x = [] := mapBlocks.eq_2 _ _ short
    have := mapBlocks_length f x
    rw [empty, List.length_nil] at this
    omega

/-- Settles O27, by induction on the blocks. -/
theorem blocksIndependent : Obligations.BlocksIndependent :=
  ⟨fun f x j h8 hj => ⟨by rw [mapBlocks_length]; omega, block_of_mapBlocks f x j (by omega)⟩, beWord_toNat,
    blockBytes_beWord⟩

end Sys2Proof.Machine
end

section
/-! SUPPORT. The units' steps: what a command can do to the state, that it sees its own unit alone, and that the two units do not
meet (R15, R105, R282). -/

namespace Sys2Proof.Machine

/-! ## Which unit's commands a decoder gives -/

theorem eq_of_needZero {n : Nat} {rest : BitVec n} {i j : Instr} (h : needZero rest i = .ok j) : j = i := by
  unfold needZero at h
  split at h
  · exact (Except.ok.inj h).symm
  · exact nomatch h

/-- R103: a unit's decoder gives commands of that unit. -/
theorem unit_of_decode {u : UnitId} {w : Word} {i : Instr} (h : decode u w = .ok i) : i.unit = u := by
  cases u with
  | bc =>
    simp only [decode, decodeBc] at h
    split_ifs at h <;> rw [eq_of_needZero h] <;> rfl
  | qr =>
    simp only [decode, decodeQr] at h
    split_ifs at h <;> rw [eq_of_needZero h] <;> rfl

/-! ## What a command can do -/

/-- R105: a command of a unit ends with a result of that unit; a `QR` command draws only if it is `QR.KEYGEN` or `QR.ISPRIME`, and
`QR.KEYGEN` may go on (R306). -/
theorem exec_cases (i : Instr) (s t : State) (h : exec i s = .next t) :
    (i.unit = .bc ∧ ∃ r, t = s.finishBc r) ∨
    (i.unit = .qr ∧ ∃ e r, t = { s with entropy := e }.finishQr r ∧
      ((∀ k, i ≠ .qrKeygen k) → (∀ k, i ≠ .qrIsprime k) → e = s.entropy)) ∨
    (∃ k f e, i = .qrKeygen k ∧ t = { s with entropy := e, qr := { s.qr with found := f } }) := by
  cases i with
  | bcInit | bcEncb | bcDecb | bcEnc | bcDec | bcClear => exact .inl ⟨rfl, _, (Host.Outcome.next.inj h).symm⟩
  | qrEnc | qrDec | qrGetn | qrGetp | qrGetq | qrClear =>
    exact .inr (.inl ⟨rfl, s.entropy, _, (Host.Outcome.next.inj h).symm, fun _ _ => rfl⟩)
  | qrIsprime k =>
    exact .inr (.inl ⟨rfl, _, _, (Host.Outcome.next.inj h).symm, fun _ hk => absurd rfl (hk k)⟩)
  | qrKeygen k =>
    obtain rfl : keygenStep k s = t := Host.Outcome.next.inj h
    rcases keygenStep_cases k s with ⟨-, e⟩ | ⟨-, -, e⟩ | ⟨-, -, ⟨p, q, ent, -, e⟩ | ⟨f, ent, -, e⟩⟩
    · exact .inr (.inl ⟨rfl, s.entropy, _, e, fun _ _ => rfl⟩)
    · exact .inr (.inl ⟨rfl, s.entropy, _, e, fun _ _ => rfl⟩)
    · exact .inr (.inl ⟨rfl, ent, _, e, fun hk _ => absurd rfl (hk k)⟩)
    · exact .inr (.inr ⟨k, f, ent, rfl, e⟩)

/-- What both ways a `BC` command ends leave alone. -/
theorem finishBc_frame (s : State) (r : CmdResult BcKey) : OnlyUnit s (s.finishBc r) .bc ∧ InputKept s (s.finishBc r) .bc := by
  cases r with
  | ok x => exact ⟨(completed_finishBc s x).only, (completed_finishBc s x).input⟩
  | error e => exact ⟨(failed_finishBc s e).only, (failed_finishBc s e).input⟩

/-- What both ways a `QR` command ends leave alone, whatever it drew. -/
theorem finishQr_frame (s : State) (e : Entropy) (r : CmdResult QrKey) :
    OnlyUnit s ({ s with entropy := e }.finishQr r) .qr ∧ InputKept s ({ s with entropy := e }.finishQr r) .qr := by
  cases r with
  | ok x => exact ⟨(completed_finishQr s e x).only, (completed_finishQr s e x).input⟩
  | error _ =>
    exact ⟨⟨fun _ => rfl, fun h => absurd rfl h, rfl, rfl, rfl, rfl, rfl, rfl, rfl⟩, ⟨rfl, rfl, rfl, fun _ => rfl⟩⟩

/-- What a search that goes on leaves alone. -/
theorem search_frame (s : State) (e : Entropy) (f : Option Nat) :
    OnlyUnit s { s with entropy := e, qr := { s.qr with found := f } } .qr ∧
    InputKept s { s with entropy := e, qr := { s.qr with found := f } } .qr :=
  ⟨⟨fun _ => rfl, fun h => absurd rfl h, rfl, rfl, rfl, rfl, rfl, rfl, rfl⟩, ⟨rfl, rfl, rfl, fun _ => rfl⟩⟩

/-- Settles O10, by what a command can do. -/
theorem commandFrame : Obligations.CommandFrame := by
  intro i s t h
  rcases exec_cases i s t h with ⟨hu, r, rfl⟩ | ⟨hu, e, r, rfl, he⟩ | ⟨k, f, e, rfl, rfl⟩
  · rw [hu]
    obtain ⟨only, input⟩ := finishBc_frame s r
    exact ⟨only, input, fun _ _ => finishBc_entropy s r⟩
  · rw [hu]
    obtain ⟨only, input⟩ := finishQr_frame s e r
    exact ⟨only, input, fun hk hp => (finishQr_entropy _ r).trans (he hk hp)⟩
  · obtain ⟨only, input⟩ := search_frame s e f
    exact ⟨only, input, fun hk _ => absurd rfl (hk k)⟩

/-! ## A step of a busy unit -/

/-- R105: a busy unit whose latched word decodes runs the command. -/
theorem completeUnit_of_decode (s : State) (u : UnitId) (i : Instr) (busy : (s.shell u).busy = true)
    (dec : decode u (s.shell u).cmdlatch = .ok i) : completeUnit u s = exec i s := by
  simp only [completeUnit, busy, dec, if_true]

theorem completeUnit_of_idle (s : State) (u : UnitId) (idle : (s.shell u).busy = false) : completeUnit u s = .next s := by
  simp [completeUnit, idle]

/-- A unit's turn is its `complete` step with the turn over. -/
theorem step_of_completeUnit (s t : State) (u : UnitId) (turn : s.currentAgent = .unit u) (h : completeUnit u s = .next t) :
    step s = .next t.endTurn :=
  step_next s t (by rw [turn, takeTurn_unit, h])

/-- Settles O5: a turn of a unit is its `complete` step, which runs the latched command. -/
theorem stepRunsLatchedCommand : Obligations.StepRunsLatchedCommand :=
  ⟨fun s t u i turn busy dec h => step_of_completeUnit s t u turn ((completeUnit_of_decode s u i busy dec).trans h),
    step_of_completeUnit, completeUnit_of_idle⟩

/-! ## A unit's step sees its own unit alone -/

/-- The parts of the state that unit `u`'s `complete` step reads are the same in both states: the unit, the configuration, the
number of the reset, and for `QR` the entropy source. -/
structure SameView (u : UnitId) (s s' : State) : Prop where
  bc : u = .bc → s'.bc = s.bc
  qr : u = .qr → s'.qr = s.qr
  entropy : u = .qr → s'.entropy = s.entropy
  resets : s'.resets = s.resets
  params : s'.params = s.params

/-- `s` with the parts that unit `u`'s step may change as they are in `t`. -/
def State.withUnit (s : State) (u : UnitId) (t : State) : State :=
  match u with
  | .bc => { s with bc := t.bc }
  | .qr => { s with qr := t.qr, entropy := t.entropy }

theorem SameView.refl (u : UnitId) (s : State) : SameView u s s := ⟨fun _ => rfl, fun _ => rfl, fun _ => rfl, rfl, rfl⟩

/-- The bus's answers are not in the view. -/
theorem SameView.answer {u : UnitId} {s s' : State} (h : SameView u s s') (r : Reply) : SameView u s (s'.answer r) :=
  ⟨h.bc, h.qr, h.entropy, h.resets, h.params⟩

theorem SameView.shell_eq {u : UnitId} {s s' : State} (h : SameView u s s') : s'.shell u = s.shell u := by
  cases u with
  | bc => exact congrArg BcUnit.shell (h.bc rfl)
  | qr => exact congrArg QrUnit.shell (h.qr rfl)

/-- The operand is in the view. -/
theorem SameView.operand_eq {u : UnitId} {s s' : State} (h : SameView u s s') : s'.operand u = s.operand u :=
  operand_congr s s' u (congrArg Shell.ilen h.shell_eq)
    fun i _ => bufByte_congr s s' u .ibuf i h.resets (congrArg (Shell.buffer · .ibuf) h.shell_eq)

/-- A `BC` result does to a state with the same view what it does to this one. -/
theorem SameView.finishBc_eq {s s' : State} (h : SameView .bc s s') (r : CmdResult BcKey) :
    s'.finishBc r = s'.withUnit .bc (s.finishBc r) := by
  cases r <;> simp only [State.finishBc, State.withUnit, h.bc rfl]

/-- A `QR` result and draws do to a state with the same view what they do to this one. -/
theorem SameView.finishQr_eq {s s' : State} (h : SameView .qr s s') (e : Entropy) (r : CmdResult QrKey) :
    { s' with entropy := e }.finishQr r = s'.withUnit .qr ({ s with entropy := e }.finishQr r) := by
  cases r <;> simp only [State.finishQr, State.withUnit, h.qr rfl]

/-- The same of a `QR` command that draws nothing. -/
theorem SameView.finishQr_noDraw_eq {s s' : State} (h : SameView .qr s s') (r : CmdResult QrKey) :
    s'.finishQr r = s'.withUnit .qr (s.finishQr r) := by
  cases r <;> simp only [State.finishQr, State.withUnit, h.qr rfl, h.entropy rfl]

/-- R214: a turn of `QR.KEYGEN` reads nothing beyond the view. -/
theorem SameView.keygenStep_eq {s s' : State} (h : SameView .qr s s') (kbits : Nat) :
    keygenStep kbits s' = s'.withUnit .qr (keygenStep kbits s) := by
  have key : s'.qr.key = s.qr.key := by rw [h.qr rfl]
  have bad : badKeySize s'.params kbits = badKeySize s.params kbits := by rw [h.params]
  have search : searchPrimes (kbits / 2) s'.entropy.tries s'.qr.found s'.entropy =
      searchPrimes (kbits / 2) s.entropy.tries s.qr.found s.entropy := by rw [h.qr rfl, h.entropy rfl]
  unfold keygenStep
  rw [key, bad, search]
  cases s.qr.key with
  | some k => exact h.finishQr_noDraw_eq (.error .alreadyKeyed)
  | none =>
    cases badKeySize s.params kbits with
    | true => exact h.finishQr_noDraw_eq (.error .invalidKeySize)
    | false =>
      cases searchPrimes (kbits / 2) s.entropy.tries s.qr.found s.entropy with
      | done p q e => exact h.finishQr_eq e (.ok (some { p := p, q := q, n := p * q }, []))
      | running f e =>
        change { s' with entropy := e, qr := { s'.qr with found := f } } =
          { s' with entropy := e, qr := { s.qr with found := f } }
        rw [h.qr rfl]

/-! The rules of the commands give the same result in both states. -/

theorem SameView.bcInitRule_eq {s s' : State} (h : SameView .bc s s') : bcInitRule s' = bcInitRule s := by
  simp only [bcInitRule, h.bc rfl, h.params, h.operand_eq]

theorem SameView.oneBlockRule_eq {s s' : State} (h : SameView .bc s s') (f : BcKey → Word → Word → Word × Word) :
    oneBlockRule f s' = oneBlockRule f s := by
  simp only [oneBlockRule, h.bc rfl, h.operand_eq]

theorem SameView.bcEncRule_eq {s s' : State} (h : SameView .bc s s') : bcEncRule s' = bcEncRule s := by
  simp only [bcEncRule, h.bc rfl, h.params, h.operand_eq]

theorem SameView.bcDecRule_eq {s s' : State} (h : SameView .bc s s') : bcDecRule s' = bcDecRule s := by
  simp only [bcDecRule, h.bc rfl, h.params, h.operand_eq]

theorem SameView.qrEncRule_eq {s s' : State} (h : SameView .qr s s') : qrEncRule s' = qrEncRule s := by
  simp only [qrEncRule, h.qr rfl, h.params, h.operand_eq]

theorem SameView.qrDecRule_eq {s s' : State} (h : SameView .qr s s') : qrDecRule s' = qrDecRule s := by
  simp only [qrDecRule, h.qr rfl, h.params, h.operand_eq]

theorem SameView.readKeyRule_eq {s s' : State} (h : SameView .qr s s') (f : QrKey → Nat) :
    readKeyRule f s' = readKeyRule f s := by
  simp only [readKeyRule, h.qr rfl, h.params]

theorem SameView.isprimeRule_eq {s s' : State} (h : SameView .qr s s') (k : Nat) : isprimeRule k s' = isprimeRule k s := by
  simp only [isprimeRule, h.qr rfl, h.params, h.operand_eq, h.entropy rfl]

/-- A `BC` command whose rule gives the same result in both states. -/
theorem next_finishBc {s s' t : State} (h : SameView .bc s s') {r r' : CmdResult BcKey} (hr : r' = r)
    (ht : (.next (s.finishBc r) : Host.Outcome State Fault Refusal) = .next t) :
    (.next (s'.finishBc r') : Host.Outcome State Fault Refusal) = .next (s'.withUnit .bc t) := by
  rw [hr, ← Host.Outcome.next.inj ht, h.finishBc_eq]

/-- A `QR` command that draws nothing and whose rule gives the same result in both states. -/
theorem next_finishQr {s s' t : State} (h : SameView .qr s s') {r r' : CmdResult QrKey} (hr : r' = r)
    (ht : (.next (s.finishQr r) : Host.Outcome State Fault Refusal) = .next t) :
    (.next (s'.finishQr r') : Host.Outcome State Fault Refusal) = .next (s'.withUnit .qr t) := by
  rw [hr, ← Host.Outcome.next.inj ht, h.finishQr_noDraw_eq]

/-- R105: a command does to a state with the same view what it does to this one, and leaves the rest of that state alone. -/
theorem SameView.exec_eq {i : Instr} {s s' t : State} (h : SameView i.unit s s') (he : exec i s = .next t) :
    exec i s' = .next (s'.withUnit i.unit t) := by
  cases i with
  | bcInit => exact next_finishBc h (SameView.bcInitRule_eq h) he
  | bcEncb => exact next_finishBc h (SameView.oneBlockRule_eq h _) he
  | bcDecb => exact next_finishBc h (SameView.oneBlockRule_eq h _) he
  | bcEnc => exact next_finishBc h (SameView.bcEncRule_eq h) he
  | bcDec => exact next_finishBc h (SameView.bcDecRule_eq h) he
  | bcClear => exact next_finishBc h rfl he
  | qrEnc => exact next_finishQr h (SameView.qrEncRule_eq h) he
  | qrDec => exact next_finishQr h (SameView.qrDecRule_eq h) he
  | qrGetn => exact next_finishQr h (SameView.readKeyRule_eq h _) he
  | qrGetp => exact next_finishQr h (SameView.readKeyRule_eq h _) he
  | qrGetq => exact next_finishQr h (SameView.readKeyRule_eq h _) he
  | qrClear => exact next_finishQr h rfl he
  | qrIsprime k =>
    obtain rfl := Host.Outcome.next.inj he
    rw [exec_qrIsprime, SameView.isprimeRule_eq h]
    exact congrArg Host.Outcome.next (SameView.finishQr_eq h _ _)
  | qrKeygen kbits =>
    obtain rfl : keygenStep kbits s = t := Host.Outcome.next.inj he
    exact congrArg Host.Outcome.next (SameView.keygenStep_eq h kbits)

theorem SameView.withUnit_self {u : UnitId} {s s' : State} (h : SameView u s s') : s'.withUnit u s = s' := by
  cases u with
  | bc => rw [State.withUnit, ← h.bc rfl]
  | qr => rw [State.withUnit, ← h.qr rfl, ← h.entropy rfl]

/-- R106: the fault of an unknown word likewise. -/
theorem SameView.finishIllegal_eq {u : UnitId} {s s' : State} (h : SameView u s s') :
    s'.finishIllegal u = s'.withUnit u (s.finishIllegal u) := by
  cases u with
  | bc => exact h.finishBc_eq (.error .illegalCommand)
  | qr => exact h.finishQr_noDraw_eq (.error .illegalCommand)

/-- R106: a busy unit whose latched word is no command of it takes the fault. -/
theorem completeUnit_of_decode_error (s : State) (u : UnitId) (e : DecodeError) (busy : (s.shell u).busy = true)
    (dec : decode u (s.shell u).cmdlatch = .error e) : completeUnit u s = .next (s.finishIllegal u) := by
  simp only [completeUnit, busy, dec, if_true]

/-- R15: a unit's `complete` step does to a state with the same view what it does to this one. -/
theorem SameView.completeUnit_eq {u : UnitId} {s s' t : State} (h : SameView u s s') (hc : completeUnit u s = .next t) :
    completeUnit u s' = .next (s'.withUnit u t) := by
  have shell := h.shell_eq
  rcases completeUnit_cases u s with ⟨idle, e⟩ | ⟨busy, i, dec, e⟩ | ⟨busy, ⟨err, dec⟩, e⟩ <;> rw [e] at hc
  · obtain rfl : s = t := Host.Outcome.next.inj hc
    rw [completeUnit_of_idle s' u (by rw [shell, idle]), h.withUnit_self]
  · obtain rfl := unit_of_decode dec
    rw [completeUnit_of_decode s' i.unit i (by rw [shell, busy]) (by rw [shell, dec]), h.exec_eq hc]
  · obtain rfl : s.finishIllegal u = t := Host.Outcome.next.inj hc
    rw [completeUnit_of_decode_error s' u err (by rw [shell, busy]) (by rw [shell, dec]), h.finishIllegal_eq]

/-- A unit's `complete` step changes its own unit alone. -/
theorem eq_withUnit_of_completeUnit {u : UnitId} {s t : State} (hc : completeUnit u s = .next t) : t = s.withUnit u t := by
  have := (SameView.refl u s).completeUnit_eq hc
  exact Host.Outcome.next.inj (hc.symm.trans this)

/-! ## The units do not meet -/

/-- What one unit's step changes is not in the other unit's view. -/
theorem sameView_withUnit {u v : UnitId} (h : u ≠ v) (s t : State) : SameView v s (s.withUnit u t) := by
  cases u <;> cases v
  case bc.qr => exact ⟨nofun, fun _ => rfl, fun _ => rfl, rfl, rfl⟩
  case qr.bc => exact ⟨fun _ => rfl, nofun, nofun, rfl, rfl⟩
  all_goals exact absurd rfl h

theorem withUnit_comm {u v : UnitId} (h : u ≠ v) (s t t' : State) :
    (s.withUnit u t).withUnit v t' = (s.withUnit v t').withUnit u t := by
  cases u <;> cases v <;> first | exact absurd rfl h | rfl

/-- R282: the `complete` steps of the two units commute. -/
theorem completeUnit_comm {u v : UnitId} (h : u ≠ v) {s t₁ t₂ : State} (h₁ : completeUnit u s = .next t₁)
    (h₂ : completeUnit v s = .next t₂) : ∃ t, completeUnit v t₁ = .next t ∧ completeUnit u t₂ = .next t := by
  have e₁ : t₁ = s.withUnit u t₁ := eq_withUnit_of_completeUnit h₁
  have e₂ : t₂ = s.withUnit v t₂ := eq_withUnit_of_completeUnit h₂
  have view₁ : SameView v s t₁ := e₁ ▸ sameView_withUnit h s t₁
  have view₂ : SameView u s t₂ := e₂ ▸ sameView_withUnit h.symm s t₂
  have meet : t₁.withUnit v t₂ = t₂.withUnit u t₁ :=
    calc t₁.withUnit v t₂
        = (s.withUnit u t₁).withUnit v t₂ := congrArg (State.withUnit · v t₂) e₁
      _ = (s.withUnit v t₂).withUnit u t₁ := withUnit_comm h s t₁ t₂
      _ = t₂.withUnit u t₁ := congrArg (State.withUnit · u t₁) e₂.symm
  exact ⟨t₁.withUnit v t₂, view₁.completeUnit_eq h₂, meet ▸ view₂.completeUnit_eq h₁⟩

/-! ## A host access and the other unit's step -/

@[simp] theorem withUnit_params (s t : State) (v : UnitId) : (s.withUnit v t).params = s.params := by cases v <;> rfl

theorem answer_withUnit (s t : State) (v : UnitId) (r : Reply) :
    (s.withUnit v t).answer r = (s.answer r).withUnit v t := by cases v <;> rfl

section
variable {u v : UnitId} (h : u ≠ v) (s t : State)
include h

theorem shell_withUnit : (s.withUnit v t).shell u = s.shell u := by
  cases u <;> cases v <;> first | exact absurd rfl h | rfl

theorem setShell_withUnit (sh : Shell) : (s.withUnit v t).setShell u sh = (s.setShell u sh).withUnit v t := by
  cases u <;> cases v <;> first | exact absurd rfl h | rfl

theorem start_withUnit (w : Word) : (s.withUnit v t).start u w = (s.start u w).withUnit v t := by
  cases u <;> cases v <;> first | exact absurd rfl h | rfl

theorem writeRegister_withUnit (r : Option Register) (x : Word) :
    (s.withUnit v t).writeRegister u r x = (s.writeRegister u r x).withUnit v t := by
  cases r with
  | none => rfl
  | some r =>
    cases r <;>
    simp only [State.writeRegister, shell_withUnit h, setShell_withUnit h, start_withUnit h, apply_ite (State.withUnit · v t)]

theorem writeBuffer_withUnit (b : BufferId) (i : Nat) (x : Byte) :
    (s.withUnit v t).writeBuffer u b i x = (s.writeBuffer u b i x).withUnit v t := by
  cases b with
  | obuf => rfl
  | ibuf =>
    simp only [State.writeBuffer, shell_withUnit h, setShell_withUnit h, withUnit_params, apply_ite (State.withUnit · v t)]

/-- What a write does to its unit and what the other unit's step does are independent. -/
theorem writeEffect_withUnit (off : BitVec 14) (x : Word) :
    (s.withUnit v t).writeEffect u off x = (s.writeEffect u off x).withUnit v t := by
  unfold State.writeEffect
  cases region off with
  | reserved => rfl
  | registers => exact writeRegister_withUnit h s t _ x
  | buffer b i => exact writeBuffer_withUnit h s t b i _

theorem hostWrite_withUnit (off : BitVec 14) (bits : Nat) (x : Word) :
    (s.withUnit v t).hostWrite u off bits x = (s.hostWrite u off bits x).withUnit v t := by
  simp only [State.hostWrite, writeEffect_withUnit h, answer_withUnit, apply_ite (State.withUnit · v t)]

theorem readIsFree_withUnit (off : BitVec 14) : (s.withUnit v t).readIsFree u off = s.readIsFree u off := by
  rw [State.readIsFree, State.readIsFree, shell_withUnit h]

/-- What a read of a unit answers does not depend on the other unit. -/
theorem readValue_withUnit (off : BitVec 14) : (s.withUnit v t).readValue u off = s.readValue u off := by
  cases u <;> cases v <;> first | exact absurd rfl h | rfl

theorem hostRead_withUnit (off : BitVec 14) (bits : Nat) :
    (s.withUnit v t).hostRead u off bits = (s.hostRead u off bits).withUnit v t := by
  simp only [State.hostRead, readIsFree_withUnit h, readValue_withUnit h, apply_ite (State.withUnit · v t)]
  cases v <;> rfl

theorem sameView_setShell (sh : Shell) : SameView v s (s.setShell u sh) := by
  cases u <;> cases v
  case bc.qr => exact ⟨nofun, fun _ => rfl, fun _ => rfl, rfl, rfl⟩
  case qr.bc => exact ⟨fun _ => rfl, nofun, nofun, rfl, rfl⟩
  all_goals exact absurd rfl h

theorem sameView_start (w : Word) : SameView v s (s.start u w) := by
  cases u <;> cases v
  case bc.qr => exact ⟨nofun, fun _ => rfl, fun _ => rfl, rfl, rfl⟩
  case qr.bc => exact ⟨fun _ => rfl, nofun, nofun, rfl, rfl⟩
  all_goals exact absurd rfl h

/-- What a write does to its unit is not in the other unit's view. -/
theorem sameView_writeEffect (off : BitVec 14) (x : Word) : SameView v s (s.writeEffect u off x) := by
  rcases writeEffect_cases s u off x with e | e | ⟨-, e | e | e | ⟨i, -, e⟩⟩ <;> rw [e]
  case inl => exact SameView.refl v s
  case inr.inr.inl => exact sameView_start h s x
  all_goals exact sameView_setShell h s _

theorem sameView_hostWrite (off : BitVec 14) (bits : Nat) (x : Word) : SameView v s (s.hostWrite u off bits x) := by
  rcases hostWrite_cases s u off bits x with ⟨-, e⟩ | ⟨-, e⟩ <;> rw [e]
  · exact (sameView_writeEffect h s off x).answer .written
  · exact (SameView.refl v s).answer .hostFault

end

/-- A read is in no unit's view. -/
theorem sameView_hostRead (s : State) (u v : UnitId) (off : BitVec 14) (bits : Nat) :
    SameView v s (s.hostRead u off bits) := by
  unfold State.hostRead
  split <;> exact ⟨fun _ => rfl, fun _ => rfl, fun _ => rfl, rfl, rfl⟩

/-- Settles O9: each step changes and sees its own unit alone, and so leaves the view of the other one as it is. -/
theorem unitsAreIndependent : Obligations.UnitsAreIndependent := by
  refine ⟨fun s t₁ t₂ h₁ h₂ => completeUnit_comm (by decide) h₁ h₂, fun s t u v off bits x h hc => ?_⟩
  have e : t = s.withUnit v t := eq_withUnit_of_completeUnit hc
  have write : t.hostWrite u off bits x = (s.hostWrite u off bits x).withUnit v t :=
    (congrArg (State.hostWrite · u off bits x) e).trans (hostWrite_withUnit h s t off bits x)
  have read : t.hostRead u off bits = (s.hostRead u off bits).withUnit v t :=
    (congrArg (State.hostRead · u off bits) e).trans (hostRead_withUnit h s t off bits)
  exact ⟨write ▸ (sameView_hostWrite h s off bits x).completeUnit_eq hc,
    read ▸ (sameView_hostRead s u v off bits).completeUnit_eq hc⟩

end Sys2Proof.Machine
end

section
/-! SUPPORT. The state after reset, the windows on the bus, and the host's turns (R7, R51, R70, R81, R108, R109). -/

namespace Sys2Proof.Machine

/-! ## The state after reset -/

/-- R51: the registers and buffers after reset are in order, whatever the size of the buffers. -/
theorem reset_shell_inv (size : Nat) : Shell.reset.Inv size where
  ibufForm := wf_nil
  obufForm := wf_nil
  ibufInside := nofun
  obufInside := nofun
  busyClear := nofun
  noErr _ := rfl
  errCode := nofun
  olenFits := Nat.zero_le size

/-- R7, R51: the state after reset with any legal configuration. -/
theorem reset_inv (p : Params) (legal : p.legal) : { State.reset with params := p }.Inv where
  legal := legal
  bc := reset_shell_inv p.bcBuf
  qr := reset_shell_inv p.qrBuf
  key := nofun
  search := nofun

theorem default_legal : Params.default.legal := by decide

/-- Settles O58. -/
theorem resetKeepsInvariant : Obligations.ResetKeepsInvariant := ⟨reset_inv Params.default default_legal, reset_inv⟩

/-- R62: the check values of the subkeys. -/
theorem piP_checkValues :
    Config.piP.words.foldl (· ^^^ ·) 0 = 0xB73AD7EA ∧ Config.piP.words.foldl (· + ·) 0 = 0x8E4D14CC := by
  decide +kernel

/-- R62: the check values of the tables. -/
theorem piS_checkValues :
    Config.piS.toList.map (fun t => t.words.foldl (· ^^^ ·) 0) = [0x4EB4DB7F, 0xC727E122, 0x462A5D01, 0x1779E2BC] ∧
    Config.piS.toList.map (fun t => t.words.foldl (· + ·) 0) = [0x4B745115, 0x72FF37B2, 0x2AC02B91, 0xF43E3A88] := by
  decide +kernel

/-- R51: what the registers of a unit read after reset. -/
theorem reset_registers (u : UnitId) :
    State.reset.statusWord u = 0 ∧ State.reset.errcodeWord u = 0 ∧ State.reset.ctrlWord u = 0 ∧
      (State.reset.shell u).ilen = 0 ∧ (State.reset.shell u).olen = 0 ∧ State.reset.irq u = false := by
  cases u <;> decide

/-- R7: `QR_BUF` is `QR_KMAX`/8 where 8 divides it. -/
theorem qrBuf_of_dvd (p : Params) (h : p.qrKmax % 8 = 0) : 8 * p.qrBuf = p.qrKmax := by
  unfold Params.qrBuf
  omega

/-- Settles O18. -/
theorem resetState : Obligations.ResetState := by
  obtain ⟨xorP, sumP⟩ := piP_checkValues
  obtain ⟨xorS, sumS⟩ := piS_checkValues
  exact ⟨reset_registers, rfl, rfl, ⟨default_legal, rfl, rfl, rfl, rfl, xorP, sumP, xorS, sumS⟩,
    fun p => ⟨rfl, rfl, qrBuf_of_dvd p⟩⟩

/-! ## The windows on the bus -/

/-- R70: the windows of a legal configuration are disjoint. -/
theorem windows_disjoint {p : Params} (h : p.legal) :
    p.baseBc + Config.windowBytes ≤ p.baseQr ∨ p.baseQr + Config.windowBytes ≤ p.baseBc := by
  obtain ⟨-, -, -, hbc, hqr, hne⟩ := h
  unfold Config.windowBytes at *
  omega

theorem base_aligned {p : Params} (h : p.legal) (u : UnitId) : p.base u % Config.windowBytes = 0 := by
  obtain ⟨-, -, -, hbc, hqr, -⟩ := h
  cases u with
  | bc => exact hbc
  | qr => exact hqr

/-- R70: the bus address of an offset selects its unit and the offset. -/
theorem selectWindow_base_add {p : Params} (h : p.legal) (u : UnitId) (off : BitVec 14) :
    selectWindow p (p.base u + off.toNat) = some (u, off) := by
  have inside : off.toNat < Config.windowBytes := off.isLt
  have back : ∀ b : Nat, BitVec.ofNat 14 (b + off.toNat - b) = off := fun b => by
    rw [Nat.add_sub_cancel_left, BitVec.ofNat_toNat, BitVec.setWidth_eq]
  unfold selectWindow
  cases u with
  | bc => rw [Params.base, if_pos ⟨by omega, by omega⟩, back]
  | qr =>
    have := windows_disjoint h
    rw [Params.base, if_neg (by omega), if_pos ⟨by omega, by omega⟩, back]

/-- R83: an address in neither window selects nothing. -/
theorem selectWindow_outside (p : Params) (addr : Nat) (h : ∀ u, addr < p.base u ∨ p.base u + Config.windowBytes ≤ addr) :
    selectWindow p addr = none := by
  have hbc : addr < p.baseBc ∨ p.baseBc + Config.windowBytes ≤ addr := h .bc
  have hqr : addr < p.baseQr ∨ p.baseQr + Config.windowBytes ≤ addr := h .qr
  unfold selectWindow
  rw [if_neg (by omega), if_neg (by omega)]

/-- Settles O16: aligned windows at different addresses do not meet. -/
theorem busAddressesSelect : Obligations.BusAddressesSelect := fun p h =>
  ⟨base_aligned h, windows_disjoint h, selectWindow_base_add h, selectWindow_outside p⟩

/-! ## The lines of a script -/

theorem register_offsets (u : UnitId) (v : Word) :
    ∀ x ∈ [(Register.cmd, (0x00 : BitVec 14)), (.status, 0x04), (.errcode, 0x08), (.ctrl, 0x0C), (.ilen, 0x10), (.olen, 0x14)],
      scriptWrite u x.1 v = [.write (.window u x.2) 32 v] ∧ scriptRead u x.1 = [.read (.window u x.2) 32] := by
  simp [scriptWrite, scriptRead, Register.offset]

/-- R109: `LOAD` is the byte writes in order, then the write of their number. -/
theorem scriptLoad_eq (u : UnitId) (h : List Byte) :
    scriptLoad u h = (List.range h.length).map
        (fun k => HostOp.write (.window u (bufferOffset .ibuf k)) 8 ((h.getD k 0).setWidth 32)) ++
      [.write (.window u Register.ilen.offset) 32 (BitVec.ofNat 32 h.length)] := by
  have bytes : h.zipIdx.flatMap (fun x => scriptWriteByte u x.2 x.1) = (List.range h.length).map
      (fun k => HostOp.write (.window u (bufferOffset .ibuf k)) 8 ((h.getD k 0).setWidth 32)) := by
    simp only [scriptWriteByte, ← List.map_eq_flatMap]
    apply List.ext_getElem
    · simp
    · intro k hk _
      have hk : k < h.length := by simpa using hk
      simp [List.getElem?_eq_getElem hk]
  rw [scriptLoad, bytes]
  rfl

/-! ## The host's turns -/

theorem hostTurn_cons {s : State} {op : HostOp} {rest : List HostOp} (script : s.script = op :: rest) :
    hostTurn s = s.hostOp op rest := by
  simp only [hostTurn, script]

/-- A turn of the host is its next action with the turn over. -/
theorem step_of_hostOp {s t : State} {op : HostOp} {rest : List HostOp} (turn : s.currentAgent = .host)
    (script : s.script = op :: rest) (h : s.hostOp op rest = .next t) : step s = .next t.endTurn :=
  step_next s t (by rw [turn, takeTurn_host, hostTurn_cons script, h])

/-- A host without a next action has a turn in which nothing happens. -/
theorem step_of_no_action {s : State} (turn : s.currentAgent = .host) (script : s.script = []) :
    step s = .next s.endTurn :=
  step_next s s (by rw [turn, takeTurn_host]; simp only [hostTurn, script])

/-- A target selects the window and offset it names. -/
theorem resolve_of_selects {p : Params} {x : Target} {u : UnitId} {off : BitVec 14}
    (h : x = .window u off ∨ ∃ a, x = .bus a ∧ selectWindow p a = some (u, off)) : x.resolve p = .ok (u, off) := by
  rcases h with rfl | ⟨a, rfl, h⟩
  · rfl
  · simp only [Target.resolve, h]

/-- R15, R81: a turn of the host with a read next. -/
theorem step_read {s : State} {x : Target} {u : UnitId} {off : BitVec 14} {bits : Nat} {rest : List HostOp}
    (turn : s.currentAgent = .host) (target : x.resolve s.params = .ok (u, off)) (script : s.script = .read x bits :: rest) :
    step s = .next { { s with script := rest }.hostRead u off bits with
      schedule := s.schedule.tail, turns := s.turns + 1 } := by
  rw [step_of_hostOp turn script (t := { s with script := rest }.hostRead u off bits) (by simp only [State.hostOp, target]),
    State.endTurn, hostRead_schedule, hostRead_turns]

/-- R15, R81: a turn of the host with a write next. -/
theorem step_write {s : State} {x : Target} {u : UnitId} {off : BitVec 14} {bits : Nat} {v : Word} {rest : List HostOp}
    (turn : s.currentAgent = .host) (target : x.resolve s.params = .ok (u, off))
    (script : s.script = .write x bits v :: rest) :
    step s = .next { { s with script := rest }.hostWrite u off bits v with
      schedule := s.schedule.tail, turns := s.turns + 1 } := by
  rw [step_of_hostOp turn script (t := { s with script := rest }.hostWrite u off bits v)
    (by simp only [State.hostOp, target]), State.endTurn, hostWrite_schedule, hostWrite_turns]

/-- R83: an access to a bus address in neither window stops the machine. -/
theorem step_noWindow {s : State} {a bits : Nat} {v : Word} {rest : List HostOp} (turn : s.currentAgent = .host)
    (outside : selectWindow s.params a = none)
    (script : s.script = .read (.bus a) bits :: rest ∨ s.script = .write (.bus a) bits v :: rest) :
    step s = .fault (.noWindow a) := by
  have target : (Target.bus a).resolve s.params = .error (.noWindow a) := by simp only [Target.resolve, outside]
  have stop : hostTurn s = .fault (.noWindow a) := by
    rcases script with script | script <;> rw [hostTurn_cons script] <;> simp only [State.hostOp, target]
  simp only [step, runTurn, turn, takeTurn_host, stop]

/-! ## Waiting -/

/-- R29: `BUSY` is bit 0 of `STATUS`. -/
theorem statusWord_bit_zero (s : State) (u : UnitId) : (s.statusWord u).getLsbD 0 = (s.shell u).busy := by
  rw [State.statusWord, BitVec.getLsbD_setWidth, BitVec.getLsbD_append]
  simp

/-- R29, R81: a read of `STATUS`, busy or not. -/
theorem hostRead_status (s : State) (u : UnitId) :
    s.hostRead u Register.status.offset 32 = s.answer (.word (s.statusWord u)) := by
  have ok : accepts Register.status.offset 32 = true := by decide
  have defined : s.readIsFree u Register.status.offset = false := Bool.and_false _
  have value : s.readValue u Register.status.offset = s.statusWord u := by
    rw [State.readValue, defined]
    rfl
  rw [State.hostRead, ok, defined, value]
  rfl

/-- R311: a read of `OLEN` of a busy unit has no defined value. -/
theorem readIsFree_olen (s : State) (u : UnitId) : s.readIsFree u Register.olen.offset = (s.shell u).busy := Bool.and_true _

/-- R33: a read of `OLEN` of an idle unit. -/
theorem readValue_olen (s : State) (u : UnitId) (idle : (s.shell u).busy = false) :
    s.readValue u Register.olen.offset = (s.shell u).olen := by
  rw [State.readValue, readIsFree_olen, idle]
  rfl

theorem hostRead_olen (s : State) (u : UnitId) :
    s.hostRead u Register.olen.offset 32 =
      { s with busyReads := if (s.shell u).busy then s.busyReads + 1 else s.busyReads }.answer
        (.word (s.readValue u Register.olen.offset)) := by
  have ok : accepts Register.olen.offset 32 = true := by decide
  rw [State.hostRead, ok, readIsFree_olen]
  rfl

/-- R109: a turn of `WAIT`. -/
theorem step_waitIdle {s : State} {u : UnitId} {rest : List HostOp} (turn : s.currentAgent = .host)
    (script : s.script = .waitIdle u :: rest) :
    step s = .next { s with
      replies := .word (s.statusWord u) :: s.replies, script := if (s.shell u).busy then s.script else rest
      schedule := s.schedule.tail, turns := s.turns + 1 } := by
  rw [step_of_hostOp turn script rfl, hostRead_status, statusWord_bit_zero, script]
  cases u <;> rfl

/-- R109: a turn of `WAITIRQ`. -/
theorem step_waitIrq {s : State} {u : UnitId} {rest : List HostOp} (turn : s.currentAgent = .host)
    (script : s.script = .waitIrq u :: rest) :
    step s = .next { s with
      script := if s.irq u then rest else s.script, schedule := s.schedule.tail, turns := s.turns + 1 } := by
  rw [step_of_hostOp turn script rfl, script]
  rfl

/-- R109: a turn of `STORE`. -/
theorem step_store {s : State} {u : UnitId} {rest : List HostOp} (turn : s.currentAgent = .host)
    (script : s.script = .store u :: rest) :
    step s = .next { s with
      replies := .word (s.readValue u Register.olen.offset) :: s.replies
      script := (List.range (s.readValue u Register.olen.offset).toNat).map
        (fun i => HostOp.read (.window u (bufferOffset .obuf i)) 8) ++ rest
      busyReads := if (s.shell u).busy then s.busyReads + 1 else s.busyReads
      schedule := s.schedule.tail, turns := s.turns + 1 } := by
  rw [step_of_hostOp turn script rfl, hostRead_olen]
  cases u <;> rfl

/-- Settles O17, by the reasoning rule of each action of the host. -/
theorem hostWaits : Obligations.HostWaits := by
  refine ⟨fun s x u off bits v rest turn sel => ?_, fun s a bits v rest => step_noWindow, register_offsets,
    fun u i h v j => ?_, fun s u rest turn => ?_⟩
  · have target := resolve_of_selects sel
    exact ⟨step_read turn target, step_write turn target⟩
  · exact ⟨rfl, rfl, rfl, rfl, rfl, rfl, rfl, rfl, scriptLoad_eq u h, List.append_assoc _ _ _, by
      rw [scriptRun, List.append_assoc, List.append_assoc]
      rfl⟩
  · exact ⟨step_of_no_action turn, step_waitIdle turn, step_waitIrq turn, fun script =>
      ⟨s.readValue u Register.olen.offset, readValue_olen s u, step_store turn script⟩⟩

end Sys2Proof.Machine
end

section
/-! SUPPORT. The results of the commands: when the rule of a command succeeds and with what, the rules of a unit taken together,
and what follows for the keys (R25, R26, R46, R105). -/

namespace Sys2Proof.Machine

/-! ## When a rule succeeds -/

/-- R152. -/
theorem bcInitRule_eq_ok (s : State) (x : Option BcKey × List Byte) :
    bcInitRule s = .ok x ↔ s.bc.key = none ∧ s.bc.shell.ilen ≠ 0 ∧ s.bc.shell.ilen.toNat ≤ s.params.bcBuf ∧
      x = (some (keySchedule s.params (s.operand .bc)), []) := by
  unfold bcInitRule
  cases s.bc.key with
  | some k => simp
  | none => split_ifs <;> simp_all [@eq_comm _ x]

/-- R135, R136. -/
theorem oneBlockRule_eq_ok (f : BcKey → Word → Word → Word × Word) (s : State) (x : Option BcKey × List Byte) :
    oneBlockRule f s = .ok x ↔
      ∃ k, s.bc.key = some k ∧ s.bc.shell.ilen = 8 ∧ x = (some k, mapBlocks (f k) (s.operand .bc)) := by
  unfold oneBlockRule
  cases s.bc.key with
  | none => simp
  | some k => split_ifs <;> simp_all [@eq_comm _ x]

/-- R172. -/
theorem bcEncRule_eq_ok (s : State) (x : Option BcKey × List Byte) :
    bcEncRule s = .ok x ↔ ∃ k, s.bc.key = some k ∧ s.bc.shell.ilen.toNat ≤ s.params.bcBuf - 1 ∧
      x = (some k, mapBlocks k.encrypt (pad (s.operand .bc))) := by
  unfold bcEncRule
  cases s.bc.key with
  | none => simp
  | some k => split_ifs <;> simp_all [@eq_comm _ x]

/-- R174. -/
theorem bcDecRule_eq_ok (s : State) (x : Option BcKey × List Byte) :
    bcDecRule s = .ok x ↔ ∃ k out, s.bc.key = some k ∧ s.bc.shell.ilen ≠ 0 ∧ s.bc.shell.ilen.toNat % 8 = 0 ∧
      s.bc.shell.ilen.toNat ≤ s.params.bcBuf ∧ unpad (mapBlocks k.decrypt (s.operand .bc)) = .ok out ∧ x = (some k, out) := by
  unfold bcDecRule
  cases s.bc.key with
  | none => simp
  | some k =>
    cases hu : unpad (mapBlocks k.decrypt (s.operand .bc)) with
    | error e => split_ifs <;> simp_all
    | ok out =>
      split_ifs with bad
      · refine iff_of_false nofun ?_
        rintro ⟨-, -, -, nonempty, whole, fits, -⟩
        rcases bad with h | h | h
        · exact nonempty h
        · exact h whole
        · omega
      · simp_all [@eq_comm _ x]

/-- R241. -/
theorem qrEncRule_eq_ok (s : State) (x : Option QrKey × List Byte) :
    qrEncRule s = .ok x ↔ ∃ k, s.qr.key = some k ∧ s.qr.shell.ilen.toNat ≤ s.params.qrBuf ∧
      encodeMessage (s.operand .qr) < k.n ∧
      x = (some k, i2osp s.params.qrZeroLen
        (encodeMessage (s.operand .qr) * encodeMessage (s.operand .qr) % k.n)) := by
  unfold qrEncRule
  cases s.qr.key with
  | none => simp
  | some k => dsimp only; split_ifs <;> simp_all [@eq_comm _ x]

/-- R245. -/
theorem qrDecRule_eq_ok (s : State) (x : Option QrKey × List Byte) :
    qrDecRule s = .ok x ↔ ∃ k msg, s.qr.key = some k ∧ s.qr.shell.ilen.toNat ≤ s.params.qrBuf ∧
      firstMessage s.params.qrZeroLen (roots k.p k.q (os2ip (s.operand .qr))) = some msg ∧ x = (some k, msg) := by
  unfold qrDecRule
  cases s.qr.key with
  | none => simp
  | some k =>
    cases hm : firstMessage s.params.qrZeroLen (roots k.p k.q (os2ip (s.operand .qr))) with
    | none => split_ifs <;> simp_all
    | some msg => split_ifs <;> simp_all [@eq_comm _ x]

/-- R216 to R218. -/
theorem readKeyRule_eq_ok (f : QrKey → Nat) (s : State) (x : Option QrKey × List Byte) :
    readKeyRule f s = .ok x ↔ ∃ k, s.qr.key = some k ∧ x = (some k, i2osp s.params.qrZeroLen (f k)) := by
  unfold readKeyRule
  cases s.qr.key <;> simp [@eq_comm _ x]

/-- R213. -/
theorem isprimeRule_eq_ok (k : Nat) (s : State) (x : Option QrKey × List Byte) :
    (isprimeRule k s).1 = .ok x ↔ s.qr.shell.ilen.toNat ≤ s.params.qrBuf ∧
      x = (s.qr.key, [if (isProbablyPrime (os2ip (s.operand .qr)) (baseCount k) s.entropy).1 then 0x01 else 0x00]) := by
  unfold isprimeRule
  split_ifs <;> simp_all [@eq_comm _ x]

/-! ## The rules of a unit -/

/-- The rule of each `BC` command; a command of the other unit is none of them. -/
def bcRule (i : Instr) (s : State) : CmdResult BcKey :=
  match i with
  | .bcInit => bcInitRule s
  | .bcEncb => oneBlockRule BcKey.encrypt s
  | .bcDecb => oneBlockRule BcKey.decrypt s
  | .bcEnc => bcEncRule s
  | .bcDec => bcDecRule s
  | .bcClear => .ok (none, [])
  | _ => .error .illegalCommand

/-- The rule of each `QR` command that is over in one turn, with the entropy source after its draws. -/
def qrRule (i : Instr) (s : State) : CmdResult QrKey × Entropy :=
  match i with
  | .qrIsprime k => isprimeRule k s
  | .qrEnc => (qrEncRule s, s.entropy)
  | .qrDec => (qrDecRule s, s.entropy)
  | .qrGetn => (readKeyRule QrKey.n s, s.entropy)
  | .qrGetp => (readKeyRule QrKey.p s, s.entropy)
  | .qrGetq => (readKeyRule QrKey.q s, s.entropy)
  | .qrClear => (.ok (none, []), s.entropy)
  | _ => (.error .illegalCommand, s.entropy)

/-- R105: a `BC` command ends with the result of its rule. -/
theorem exec_eq_bcRule {i : Instr} (hu : i.unit = .bc) (s : State) : exec i s = .next (s.finishBc (bcRule i s)) := by
  cases i with
  | bcInit | bcEncb | bcDecb | bcEnc | bcDec | bcClear => rfl
  | qrKeygen | qrIsprime | qrEnc | qrDec | qrGetn | qrGetp | qrGetq | qrClear => exact nomatch hu

/-- R105: a command ends with the draws and the result of its unit's rule, or it is `QR.KEYGEN`. -/
theorem exec_result {i : Instr} {s t : State} (h : exec i s = .next t) :
    (i.unit = .bc ∧ t = s.finishBc (bcRule i s)) ∨
    (i.unit = .qr ∧ t = { s with entropy := (qrRule i s).2 }.finishQr (qrRule i s).1) ∨
    ∃ kbits, i = .qrKeygen kbits ∧ t = keygenStep kbits s := by
  cases i with
  | bcInit | bcEncb | bcDecb | bcEnc | bcDec | bcClear =>
    exact .inl ⟨rfl, (Host.Outcome.next.inj h).symm⟩
  | qrKeygen kbits => exact .inr (.inr ⟨kbits, rfl, (Host.Outcome.next.inj h).symm⟩)
  | qrIsprime | qrEnc | qrDec | qrGetn | qrGetp | qrGetq | qrClear =>
    exact .inr (.inl ⟨rfl, (Host.Outcome.next.inj h).symm⟩)

/-! ## The keys -/

/-- R25: a `BC` command other than `BC.CLEAR` that succeeds leaves the key the unit had. -/
theorem bcRule_ok_key {i : Instr} {s : State} {x : Option BcKey × List Byte} {k : BcKey} (h : bcRule i s = .ok x)
    (hk : s.bc.key = some k) (hi : i ≠ .bcClear) : x.1 = some k := by
  cases i with
  | bcInit =>
    obtain ⟨unkeyed, -⟩ := (bcInitRule_eq_ok s x).mp h
    exact nomatch unkeyed.symm.trans hk
  | bcEncb | bcDecb =>
    obtain ⟨k', hk', -, rfl⟩ := (oneBlockRule_eq_ok _ s x).mp h
    exact hk'.symm.trans hk
  | bcEnc =>
    obtain ⟨k', hk', -, rfl⟩ := (bcEncRule_eq_ok s x).mp h
    exact hk'.symm.trans hk
  | bcDec =>
    obtain ⟨k', out, hk', -, -, -, -, rfl⟩ := (bcDecRule_eq_ok s x).mp h
    exact hk'.symm.trans hk
  | bcClear => exact absurd rfl hi
  | qrKeygen | qrIsprime | qrEnc | qrDec | qrGetn | qrGetp | qrGetq | qrClear => exact nomatch h

/-- R46: a `QR` command that is over in one turn and succeeds leaves the unit its key, or no key if it is `QR.CLEAR`. -/
theorem qrRule_ok_key {i : Instr} {s : State} {x : Option QrKey × List Byte} (h : (qrRule i s).1 = .ok x) :
    x.1 = if i = .qrClear then none else s.qr.key := by
  cases i with
  | qrIsprime k =>
    obtain ⟨-, rfl⟩ := (isprimeRule_eq_ok k s x).mp h
    rfl
  | qrEnc =>
    obtain ⟨k, hk, -, -, rfl⟩ := (qrEncRule_eq_ok s x).mp h
    exact hk.symm
  | qrDec =>
    obtain ⟨k, msg, hk, -, -, rfl⟩ := (qrDecRule_eq_ok s x).mp h
    exact hk.symm
  | qrGetn | qrGetp | qrGetq =>
    obtain ⟨k, hk, rfl⟩ := (readKeyRule_eq_ok _ s x).mp h
    exact hk.symm
  | qrClear =>
    obtain rfl := Except.ok.inj h
    rfl
  | bcInit | bcEncb | bcDecb | bcEnc | bcDec | bcClear | qrKeygen => exact nomatch h

/-- R214: `QR.KEYGEN` of a keyed unit fails and leaves the key. -/
theorem keygenStep_of_keyed (kbits : Nat) (s : State) (k : QrKey) (hk : s.qr.key = some k) :
    keygenStep kbits s = s.finishQr (.error .alreadyKeyed) := by
  simp only [keygenStep, hk]

theorem bcKey_kept {i : Instr} {s t : State} {k : BcKey} (h : exec i s = .next t) (hk : s.bc.key = some k)
    (hi : i ≠ .bcClear) : t.bc.key = some k := by
  obtain ⟨only, -⟩ := commandFrame i s t h
  rcases exec_result h with ⟨-, rfl⟩ | ⟨hu, -⟩ | ⟨kbits, rfl, -⟩
  case inl =>
    cases hr : bcRule i s with
    | error e => exact hk
    | ok x => exact bcRule_ok_key hr hk hi
  case inr.inl => rw [only.bc (by rw [hu]; exact nofun), hk]
  case inr.inr => rw [only.bc nofun, hk]

theorem qrKey_kept {i : Instr} {s t : State} {k : QrKey} (h : exec i s = .next t) (hk : s.qr.key = some k)
    (hi : i ≠ .qrClear) : t.qr.key = some k := by
  rcases exec_result h with ⟨-, rfl⟩ | ⟨-, rfl⟩ | ⟨kbits, -, rfl⟩
  · rw [finishBc_qr, hk]
  · cases hr : (qrRule i s).1 with
    | error e => exact hk
    | ok x => exact (qrRule_ok_key hr).trans (by rw [if_neg hi, hk])
  · rw [keygenStep_of_keyed kbits s k hk]
    exact hk

/-- Settles O32: no rule but that of a `CLEAR` succeeds with another key than the one it found. -/
theorem keysImmutable : Obligations.KeysImmutable := fun _ _ _ h =>
  ⟨fun _ hk hi => bcKey_kept h hk hi, fun _ hk hi => qrKey_kept h hk hi⟩

/-! ## `BC` commands -/

/-- Settles O22, by the success of the rule. -/
theorem bcInitResult : Obligations.BcInitResult := by
  intro s unkeyed nonempty fits
  have rule : bcInitRule s = .ok (some (keySchedule s.params (s.operand .bc)), []) :=
    (bcInitRule_eq_ok s _).mpr ⟨unkeyed, nonempty, fits, rfl⟩
  exact ⟨_, exec_bcInit s, by rw [rule]; rfl, by rw [rule]; rfl, by rw [rule]; exact completed_finishBc s _,
    finishBc_entropy s _⟩

/-- R74: the bytes of the operand. -/
theorem operand_getElem? (s : State) (u : UnitId) {i : Nat} (hi : i < (s.shell u).ilen.toNat) :
    (s.operand u)[i]? = some (s.bufByte u .ibuf i) := by
  simp [State.operand, State.inputBytes, hi]

/-- R26: the rule of a `BC` command reads the configuration, the key, `ILEN` and the operand alone. -/
theorem bcRule_congr (i : Instr) {s s' : State} (params : s.params = s'.params) (key : s.bc.key = s'.bc.key)
    (ilen : s.bc.shell.ilen = s'.bc.shell.ilen) (operand : s.operand .bc = s'.operand .bc) : bcRule i s = bcRule i s' := by
  cases i with
  | bcInit => simp only [bcRule, bcInitRule, params, key, ilen, operand]
  | bcEncb | bcDecb => simp only [bcRule, oneBlockRule, key, ilen, operand]
  | bcEnc => simp only [bcRule, bcEncRule, params, key, ilen, operand]
  | bcDec => simp only [bcRule, bcDecRule, params, key, ilen, operand]
  | bcClear | qrKeygen | qrIsprime | qrEnc | qrDec | qrGetn | qrGetp | qrGetq | qrClear => rfl

/-- R105: what the result of a `BC` command decides of the state after it: the key where it succeeds or both keys were equal, the
status registers, and the result bytes. -/
theorem finishBc_agree {s s' : State} (r : CmdResult BcKey) (key : s.bc.key = s'.bc.key) :
    let t := s.finishBc r
    let t' := s'.finishBc r
    t.bc.key = t'.bc.key ∧ t.bc.shell.err = t'.bc.shell.err ∧ t.bc.shell.errcode = t'.bc.shell.errcode ∧
      t.bc.shell.olen = t'.bc.shell.olen ∧
      ∀ j, j < t.bc.shell.olen.toNat → t.bufByte .bc .obuf j = t'.bufByte .bc .obuf j := by
  cases r with
  | error e => exact ⟨key, rfl, rfl, rfl, fun j hj => absurd hj (Nat.not_lt_zero j)⟩
  | ok x =>
    refine ⟨rfl, rfl, rfl, rfl, fun j hj => ?_⟩
    have inside : j < x.2.length := lt_of_lt_of_le hj (BitVec.toNat_ofNat _ 32 ▸ Nat.mod_le x.2.length (2 ^ 32))
    rw [(completed_finishBc s x).obuf j, (completed_finishBc s' x).obuf j, List.getD_eq_getElem _ _ inside,
      List.getD_eq_getElem _ _ inside]

/-- Settles O31: the two runs have one and the same result. -/
theorem bcCommandsPure : Obligations.BcCommandsPure := by
  refine ⟨fun s u => ⟨operand_length s u, fun i => operand_getElem? s u⟩, ?_⟩
  intro i s s' t t' hu params key ilen bytes h h'
  have operand : s.operand .bc = s'.operand .bc := (operand_congr s s' .bc ilen.symm fun j hj => (bytes j hj).symm).symm
  rw [exec_eq_bcRule hu] at h h'
  rw [← bcRule_congr i params key ilen operand] at h'
  obtain rfl := Host.Outcome.next.inj h
  obtain rfl := Host.Outcome.next.inj h'
  exact finishBc_agree (bcRule i s) key

end Sys2Proof.Machine
end

section
/-! SUPPORT. Key generation: what a search keeps and finds, the keys it can make, and that an unfinished one leaves no trace (R41
to R43, R49, R214, R215, R306). -/

namespace Sys2Proof.Machine

/-! ## What a search finds -/

/-- R212: a number of at least 4 that the test accepts has passed as many legal bases. -/
theorem goodBases_of_isProbablyPrime {n k : Nat} {e : Entropy} (hn : 4 ≤ n) (h : (isProbablyPrime n k e).1 = true) :
    ∃ bases : List Nat, bases.length = k ∧ ∀ a ∈ bases, GoodBase n a := by
  unfold isProbablyPrime at h
  rw [if_neg (by omega), if_neg (by omega)] at h
  split at h
  · exact nomatch h
  · exact testBases_true n k e hn h

/-- A candidate of 3 bits or more is at least 4. -/
theorem four_le_of_isCandidate {b c : Nat} (hb : 3 ≤ b) (h : IsCandidate b c) : 4 ≤ c := by
  obtain ⟨len, -⟩ := h
  calc 4 = 2 ^ 2 := rfl
    _ ≤ 2 ^ (b - 1) := Nat.pow_le_pow_right (by decide) (by omega)
    _ ≤ c := two_pow_le_of_bitlen c b len (by omega)

/-- R215: a drawn candidate that the test accepts is what `QR.KEYGEN` guarantees of a prime. -/
theorem probablePrime_of_accepted {b : Nat} {e e' : Entropy} (hb : 3 ≤ b)
    (h : (isProbablyPrime (e.drawCandidate b).1 Config.mrRounds e').1 = true) : ProbablePrime b (e.drawCandidate b).1 := by
  have candidate : IsCandidate b (e.drawCandidate b).1 := inCandidates_isCandidate b e.answer (by omega)
  exact ⟨candidate, goodBases_of_isProbablyPrime (four_le_of_isCandidate hb candidate) h⟩

/-- What is known of the numbers a search has accepted, at its end and while it goes on. -/
def Search.Sound (b : Nat) : Search → Prop
  | .done p q _ => ProbablePrime b p ∧ ProbablePrime b q
  | .running found _ => ∀ p, found = some p → ProbablePrime b p

/-- R214, R215: a search accepts only numbers that passed the test, if the one it begins with did. -/
theorem searchPrimes_sound {b : Nat} (hb : 3 ≤ b) (tries : Nat) (found : Option Nat) (e : Entropy)
    (h : ∀ p, found = some p → ProbablePrime b p) : (searchPrimes b tries found e).Sound b := by
  induction tries generalizing found e with
  | zero => exact h
  | succ tries ih =>
    unfold searchPrimes
    dsimp only
    split
    case isFalse => exact ih found _ h
    case isTrue accepted =>
      have prime := probablePrime_of_accepted hb accepted
      cases found with
      | none => exact ih _ _ fun p hp => Option.some.inj hp ▸ prime
      | some p => exact ⟨h p rfl, prime⟩

/-- R7, R214: the legal key sizes. -/
theorem badKeySize_eq_false (p : Params) (kbits : Nat) :
    badKeySize p kbits = false ↔ kbits % 2 = 0 ∧ 16 ≤ kbits ∧ kbits ≤ p.qrKmax := by
  rw [badKeySize, Config.qrKmin, decide_eq_false_iff_not]
  omega

/-- R41, R42, R306: in a turn that knows the first prime to be sound, if it has one, `QR.KEYGEN` fails, makes a sound key of a legal
size, or goes on with a sound first prime. -/
theorem keygenStep_sound {kbits : Nat} {s : State} (h : ∀ p, s.qr.found = some p → ProbablePrime (kbits / 2) p) :
    (∃ e, keygenStep kbits s = s.finishQr (.error e)) ∨
    (s.qr.key = none ∧ badKeySize s.params kbits = false ∧
      ((∃ p q e, ProbablePrime (kbits / 2) p ∧ ProbablePrime (kbits / 2) q ∧
          keygenStep kbits s = { s with entropy := e }.finishQr (.ok (some { p := p, q := q, n := p * q }, []))) ∨
       ∃ f e, (∀ p, f = some p → ProbablePrime (kbits / 2) p) ∧
          keygenStep kbits s = { s with entropy := e, qr := { s.qr with found := f } })) := by
  rcases keygenStep_cases kbits s with ⟨-, eq⟩ | ⟨-, -, eq⟩ | ⟨unkeyed, legal, turn⟩
  · exact .inl ⟨_, eq⟩
  · exact .inl ⟨_, eq⟩
  · obtain ⟨-, size, -⟩ := (badKeySize_eq_false _ _).mp legal
    have sound := searchPrimes_sound (by omega : 3 ≤ kbits / 2) s.entropy.tries s.qr.found s.entropy h
    refine .inr ⟨unkeyed, legal, ?_⟩
    rcases turn with ⟨p, q, e, search, eq⟩ | ⟨f, e, search, eq⟩ <;> rw [search] at sound
    · obtain ⟨hp, hq⟩ := sound
      exact .inl ⟨p, q, e, hp, hq, eq⟩
    · exact .inr ⟨f, e, sound, eq⟩

/-- The first prime of the search under way belongs to the latched command. -/
theorem QrUnit.SearchInv.probablePrime {x : QrUnit} {params : Params} {p kbits : Nat} (h : x.SearchInv params p)
    (latched : decode .qr x.shell.cmdlatch = .ok (.qrKeygen kbits)) : ProbablePrime (kbits / 2) p := by
  obtain ⟨-, -, kbits', latched', -, prime⟩ := h
  obtain rfl : kbits' = kbits := by simpa using latched'.symm.trans latched
  exact prime

theorem State.KeygenTurn.probablePrime {s : State} {kbits : Nat} (h : s.KeygenTurn kbits) :
    ∀ p, s.qr.found = some p → ProbablePrime (kbits / 2) p := by
  intro p hp
  rcases h with none | ⟨inv, latched⟩
  · exact nomatch none.symm.trans hp
  · exact (inv.search p hp).probablePrime latched

/-! ## The keys a generation can make -/

/-- The product of two numbers of `b` bits. -/
theorem ProbablePrime.mul_bounds {b p q : Nat} (hb : 1 ≤ b) (hp : ProbablePrime b p) (hq : ProbablePrime b q) :
    2 ^ (2 * b - 2) ≤ p * q ∧ p * q < 2 ^ (2 * b) := by
  obtain ⟨⟨lenP, -⟩, -⟩ := hp
  obtain ⟨⟨lenQ, -⟩, -⟩ := hq
  constructor
  · calc 2 ^ (2 * b - 2) = 2 ^ (b - 1) * 2 ^ (b - 1) := by rw [← Nat.pow_add]; congr 1; omega
      _ ≤ p * q := Nat.mul_le_mul (two_pow_le_of_bitlen p b lenP hb) (two_pow_le_of_bitlen q b lenQ hb)
  · calc p * q < 2 ^ b * 2 ^ b :=
        Nat.mul_lt_mul'' ((bitlen_le_iff p b).mp lenP.le) ((bitlen_le_iff q b).mp lenQ.le)
      _ = 2 ^ (2 * b) := by rw [← Nat.pow_add, two_mul]

/-- Settles O44: a key comes from the one ending of a turn that is no fault, and its primes are sound. -/
theorem qrKeygenGuarantees : Obligations.QrKeygenGuarantees := by
  intro s t kbits k unkeyed turn h hk
  obtain rfl : keygenStep kbits s = t := Host.Outcome.next.inj h
  rcases keygenStep_sound turn.probablePrime with ⟨e, eq⟩ | ⟨-, legal, ⟨p, q, e, hp, hq, eq⟩ | ⟨f, e, -, eq⟩⟩ <;>
    rw [eq] at hk
  · exact nomatch unkeyed.symm.trans hk
  · obtain rfl : { p := p, q := q, n := p * q } = k := Option.some.inj hk
    obtain ⟨even, low, high⟩ := (badKeySize_eq_false _ _).mp legal
    have bounds := hp.mul_bounds (by omega) hq
    rw [Nat.mul_div_cancel' (Nat.dvd_of_mod_eq_zero even)] at bounds
    exact ⟨even, low, high, hp, hq, rfl, bounds⟩
  · exact nomatch unkeyed.symm.trans hk

/-! ## Every pair is possible -/

theorem Entropy.after_add (e : Entropy) (i j : Nat) : (e.after i).after j = e.after (i + j) := by
  simp [Entropy.after, List.drop_drop, Nat.add_assoc]

theorem Entropy.advance_eq_after (e : Entropy) : e.advance = e.after 1 := by
  simp [Entropy.advance, Entropy.after]

theorem Entropy.answers_after {e : Entropy} {used rest : List Nat} (h : e.answers = used ++ rest) :
    (e.after used.length).answers = rest := by
  simp [Entropy.after, h]

theorem Entropy.answer_of_cons {e : Entropy} {a : Nat} {rest : List Nat} (h : e.answers = a :: rest) : e.answer = a := by
  simp only [Entropy.answer, h]

/-- R211, R212: listed answers that are good bases are drawn as they are, and pass. -/
theorem testBases_of_goodBases {n : Nat} (bases rest : List Nat) {e : Entropy} (listed : e.answers = bases ++ rest)
    (good : ∀ a ∈ bases, GoodBase n a) :
    testBases n (decompose n).1 (decompose n).2 bases.length e = (true, e.after bases.length) := by
  induction bases generalizing e with
  | nil => rfl
  | cons a bases ih =>
    obtain ⟨low, high, passes⟩ := good a (by simp)
    have drawn : e.draw 2 (n - 2) = (a, e.after 1) := by
      rw [Entropy.draw, Entropy.answer_of_cons listed, inRange_of_mem _ _ _ low high, Entropy.advance_eq_after]
    have next := ih (e := e.after 1) (Entropy.answers_after (used := [a]) listed) fun c hc =>
      good c (List.mem_cons_of_mem a hc)
    rw [List.length_cons, testBases, drawn, if_pos passes, next, Entropy.after_add, Nat.add_comm]

/-- R212: an odd number of at least 4 whose bases are listed next passes the test. -/
theorem isProbablyPrime_of_goodBases {n : Nat} (bases rest : List Nat) {e : Entropy} (hn : 4 ≤ n) (odd : n % 2 = 1)
    (listed : e.answers = bases ++ rest) (good : ∀ a ∈ bases, GoodBase n a) :
    isProbablyPrime n bases.length e = (true, e.after bases.length) := by
  unfold isProbablyPrime
  rw [if_neg (by omega), if_neg (by omega), if_neg (by omega), testBases_of_goodBases bases rest listed good]

/-- The draws that make `GenPrime(b)` accept `c` at its first try: `c` itself, then `bases` (R215). -/
structure AcceptedWith (b c : Nat) (bases : List Nat) : Prop where
  candidate : IsCandidate b c
  rounds : bases.length = Config.mrRounds
  good : ∀ a ∈ bases, GoodBase c a

theorem probablePrime_iff_acceptedWith (b c : Nat) : ProbablePrime b c ↔ ∃ bases, AcceptedWith b c bases :=
  ⟨fun ⟨candidate, bases, rounds, good⟩ => ⟨bases, candidate, rounds, good⟩,
    fun ⟨bases, h⟩ => ⟨h.candidate, bases, h.rounds, h.good⟩⟩

/-- R214, R215: one try of a search with a candidate and its passing bases listed next accepts the candidate. -/
theorem searchPrimes_of_acceptedWith {b c : Nat} (tries : Nat) {bases rest : List Nat} {e : Entropy} (hb : 3 ≤ b)
    (h : AcceptedWith b c bases) (listed : e.answers = c :: bases ++ rest) :
    searchPrimes b (tries + 1) none e = searchPrimes b tries (some c) (e.after (c :: bases).length) ∧
    ∀ p, searchPrimes b (tries + 1) (some p) e = .done p c (e.after (c :: bases).length) := by
  obtain ⟨candidate, rounds, good⟩ := h
  have drawn : e.drawCandidate b = (c, e.after 1) := by
    rw [Entropy.drawCandidate, Entropy.answer_of_cons listed, inCandidates_of_isCandidate b c candidate,
      Entropy.advance_eq_after]
  have odd : c % 2 = 1 := by
    obtain ⟨-, form⟩ := candidate
    omega
  have listed' : (e.after 1).answers = bases ++ rest := Entropy.answers_after (used := [c]) listed
  have passes : isProbablyPrime c Config.mrRounds (e.after 1) = (true, e.after (c :: bases).length) := by
    rw [← rounds, isProbablyPrime_of_goodBases bases rest (four_le_of_isCandidate hb candidate) odd listed' good,
      Entropy.after_add, List.length_cons, Nat.add_comm]
  constructor
  · simp only [searchPrimes, drawn, passes, if_true]
  · intro p
    simp only [searchPrimes, drawn, passes, if_true]

/-- R214: a new search with the draws of both numbers listed next ends with them, in this order. -/
theorem searchPrimes_of_pair {b p q : Nat} {basesP basesQ : List Nat} {e : Entropy} (hb : 3 ≤ b)
    (hp : AcceptedWith b p basesP) (hq : AcceptedWith b q basesQ) (listed : e.answers = (p :: basesP) ++ (q :: basesQ)) :
    ∃ e', searchPrimes b e.tries none e = .done p q e' := by
  have tries : e.tries = basesP.length + basesQ.length + 1 + 1 + 1 := by
    simp only [Entropy.tries, listed, List.length_append, List.length_cons]
    omega
  have listed' : (e.after (p :: basesP).length).answers = q :: basesQ ++ [] := by
    rw [Entropy.answers_after listed, List.append_nil]
  obtain ⟨first, -⟩ := searchPrimes_of_acceptedWith (basesP.length + basesQ.length + 1 + 1) hb hp listed
  obtain ⟨-, second⟩ := searchPrimes_of_acceptedWith (basesP.length + basesQ.length + 1) hb hq listed'
  exact ⟨_, by rw [tries, first, second]⟩

/-- R214: a turn of `QR.KEYGEN` on an unkeyed unit whose search ends makes the key. -/
theorem keygenStep_of_done {s : State} {kbits p q : Nat} {e : Entropy} (unkeyed : s.qr.key = none)
    (legal : badKeySize s.params kbits = false)
    (search : searchPrimes (kbits / 2) s.entropy.tries s.qr.found s.entropy = .done p q e) :
    keygenStep kbits s = { s with entropy := e }.finishQr (.ok (some { p := p, q := q, n := p * q }, [])) := by
  simp only [keygenStep, unkeyed, legal, search]
  rfl

/-- Settles O45: the draws are each number followed by its passing bases. -/
theorem qrKeygenEveryPair : Obligations.QrKeygenEveryPair := by
  intro s kbits p q unkeyed fresh even low high hp hq
  obtain ⟨basesP, acceptedP⟩ := (probablePrime_iff_acceptedWith _ p).mp hp
  obtain ⟨basesQ, acceptedQ⟩ := (probablePrime_iff_acceptedWith _ q).mp hq
  have legal : badKeySize s.params kbits = false := (badKeySize_eq_false _ _).mpr ⟨even, low, high⟩
  obtain ⟨e', search⟩ := searchPrimes_of_pair
    (e := { answers := (p :: basesP) ++ (q :: basesQ), given := s.entropy.given }) (by omega) acceptedP acceptedQ rfl
  rw [← fresh] at search
  have turn := keygenStep_of_done (s := { s with entropy := ⟨(p :: basesP) ++ (q :: basesQ), s.entropy.given⟩ })
    unkeyed legal search
  exact ⟨_, _, exec_qrKeygen kbits _, by rw [turn]; rfl⟩

/-! ## An unfinished generation -/

theorem finishQr_busy (s : State) (r : CmdResult QrKey) : (s.finishQr r).qr.shell.busy = false := by cases r <;> rfl

/-- Settles O46: every ending of a turn but the search that goes on makes the unit idle. -/
theorem qrKeygenSearchLeavesNoTrace : Obligations.QrKeygenSearchLeavesNoTrace := by
  intro s t kbits _ h busy
  obtain rfl : keygenStep kbits s = t := Host.Outcome.next.inj h
  rcases keygenStep_cases kbits s with ⟨-, eq⟩ | ⟨-, -, eq⟩ | ⟨-, -, ⟨p, q, e, -, eq⟩ | ⟨f, e, -, eq⟩⟩
  case inr.inr.inr =>
    rw [eq]
  all_goals
    rw [eq, finishQr_busy] at busy
    exact nomatch busy

end Sys2Proof.Machine
end

section
/-! SUPPORT. The invariant of the machine is kept by the step of every agent, and the configuration by every step (R29, R34, R35,
R41, R42, R50, R60, R104, R260). -/

namespace Sys2Proof.Machine

/-! ## The results fit the buffers -/

theorem Params.bcBuf_lt {p : Params} (h : p.legal) : p.bcBuf < 2 ^ 32 := by
  obtain ⟨⟨-, -, high⟩, -⟩ := h
  omega

theorem Params.qrBuf_lt {p : Params} (h : p.legal) : p.qrBuf < 2 ^ 32 := by
  obtain ⟨-, ⟨-, -, high⟩, -⟩ := h
  unfold Params.qrBuf
  omega

theorem Params.qrBuf_pos {p : Params} (h : p.legal) : 1 ≤ p.qrBuf := by
  obtain ⟨-, ⟨-, low, -⟩, -⟩ := h
  unfold Params.qrBuf
  omega

/-- R170: the padded length is the next multiple of 8. -/
theorem pad_length (m : List Byte) : (pad m).length = 8 * ((m.length + 8) / 8) := by
  rw [pad, List.length_append, List.length_replicate]
  omega

/-- R75: the result of a `BC` command fits `OBUF`. -/
theorem bcRule_ok_length {i : Instr} {s : State} {x : Option BcKey × List Byte} (legal : s.params.legal)
    (h : bcRule i s = .ok x) : x.2.length ≤ s.params.bcBuf := by
  obtain ⟨⟨whole, low, -⟩, -⟩ := legal
  cases i with
  | bcInit =>
    obtain ⟨-, -, -, rfl⟩ := (bcInitRule_eq_ok s x).mp h
    exact Nat.zero_le _
  | bcEncb | bcDecb =>
    obtain ⟨k, -, ilen, rfl⟩ := (oneBlockRule_eq_ok _ s x).mp h
    simp only [mapBlocks_length, operand_length, shell_bc, ilen]
    exact low
  | bcEnc =>
    obtain ⟨k, -, fits, rfl⟩ := (bcEncRule_eq_ok s x).mp h
    simp only [mapBlocks_length, pad_length, operand_length, shell_bc]
    omega
  | bcDec =>
    obtain ⟨k, out, -, -, -, fits, unpadded, rfl⟩ := (bcDecRule_eq_ok s x).mp h
    have := unpad_length _ _ unpadded
    simp only [mapBlocks_length, operand_length, shell_bc] at this
    dsimp only
    omega
  | bcClear =>
    obtain rfl := Except.ok.inj h
    exact Nat.zero_le _
  | qrKeygen | qrIsprime | qrEnc | qrDec | qrGetn | qrGetp | qrGetq | qrClear => exact nomatch h

/-- R41, R42: the primes of a key in order are not 0. -/
theorem QrKey.Inv.factors_pos {k : QrKey} {p : Params} (h : k.Inv p) : 0 < k.p ∧ 0 < k.q ∧ k.n = k.p * k.q := by
  obtain ⟨b, low, -, primeP, primeQ, product⟩ := h
  obtain ⟨below, -⟩ := primeP.mul_bounds (le_trans (by decide) low) primeQ
  have pos : 0 < k.p * k.q := lt_of_lt_of_le (Nat.two_pow_pos _) below
  exact ⟨Nat.pos_of_mul_pos_right pos, Nat.pos_of_mul_pos_left pos, product⟩

/-- R41, R42: the modulus of a key in order has at most `QR_KMAX` bits. -/
theorem QrKey.Inv.n_lt {k : QrKey} {p : Params} (h : k.Inv p) : k.n < 2 ^ p.qrKmax := by
  obtain ⟨b, low, high, primeP, primeQ, product⟩ := h
  obtain ⟨-, above⟩ := primeP.mul_bounds (le_trans (by decide) low) primeQ
  calc k.n = k.p * k.q := product
    _ < 2 ^ (2 * b) := above
    _ ≤ 2 ^ p.qrKmax := Nat.pow_le_pow_right (by decide) (by omega)

/-- R216: each integer of a key in order fits `OBUF`. -/
theorem QrKey.Inv.i2osp_le {k : QrKey} {p : Params} (legal : p.legal) (h : k.Inv p) {x : Nat} (hx : x ≤ k.n) :
    (i2osp p.qrZeroLen x).length ≤ p.qrBuf :=
  i2osp_length p legal x (lt_of_le_of_lt hx h.n_lt)

/-- R75: the result of a `QR` command fits `OBUF`. -/
theorem qrRule_ok_length {i : Instr} {s : State} {x : Option QrKey × List Byte} (inv : s.Inv)
    (h : (qrRule i s).1 = .ok x) : x.2.length ≤ s.params.qrBuf := by
  cases i with
  | qrIsprime k =>
    obtain ⟨-, rfl⟩ := (isprimeRule_eq_ok k s x).mp h
    exact Params.qrBuf_pos inv.legal
  | qrEnc =>
    obtain ⟨k, hk, -, below, rfl⟩ := (qrEncRule_eq_ok s x).mp h
    exact (inv.key k hk).i2osp_le inv.legal (Nat.mod_lt _ (by omega)).le
  | qrDec =>
    obtain ⟨k, msg, hk, -, found, rfl⟩ := (qrDecRule_eq_ok s x).mp h
    obtain ⟨posP, posQ, product⟩ := (inv.key k hk).factors_pos
    obtain ⟨r, hr, -, rfl⟩ := firstMessage_some _ _ _ found
    have root : r ≤ k.n := product ▸ roots_le _ _ _ posP posQ r hr
    exact le_trans (by simp) ((inv.key k hk).i2osp_le inv.legal root)
  | qrGetn =>
    obtain ⟨k, hk, rfl⟩ := (readKeyRule_eq_ok _ s x).mp h
    exact (inv.key k hk).i2osp_le inv.legal le_rfl
  | qrGetp =>
    obtain ⟨k, hk, rfl⟩ := (readKeyRule_eq_ok _ s x).mp h
    obtain ⟨posP, posQ, product⟩ := (inv.key k hk).factors_pos
    exact (inv.key k hk).i2osp_le inv.legal (product ▸ Nat.le_mul_of_pos_right _ posQ)
  | qrGetq =>
    obtain ⟨k, hk, rfl⟩ := (readKeyRule_eq_ok _ s x).mp h
    obtain ⟨posP, posQ, product⟩ := (inv.key k hk).factors_pos
    exact (inv.key k hk).i2osp_le inv.legal (product ▸ Nat.le_mul_of_pos_left _ posP)
  | qrClear =>
    obtain rfl := Except.ok.inj h
    exact Nat.zero_le _
  | bcInit | bcEncb | bcDecb | bcEnc | bcDec | bcClear | qrKeygen => exact nomatch h

/-! ## What keeps the invariant -/

/-- The invariant speaks of the units and the configuration alone. -/
theorem State.Inv.congr {s t : State} (h : s.Inv) (bc : t.bc = s.bc) (qr : t.qr = s.qr) (params : t.params = s.params) :
    t.Inv where
  legal := params ▸ h.legal
  bc := by rw [bc, params]; exact h.bc
  qr := by rw [qr, params]; exact h.qr
  key := by rw [qr, params]; exact h.key
  search := by rw [qr, params]; exact h.search

/-- R105: a `BC` command whose result fits the buffer keeps the invariant. -/
theorem finishBc_inv {s : State} {r : CmdResult BcKey} (h : s.Inv)
    (fits : ∀ x, r = .ok x → x.2.length ≤ s.params.bcBuf) : (s.finishBc r).Inv := by
  cases r with
  | error e => exact ⟨h.legal, raise_inv _ _ e h.bc, h.qr, h.key, h.search⟩
  | ok x => exact ⟨h.legal, succeed_inv _ _ x.2 h.bc (fits x rfl) (Params.bcBuf_lt h.legal), h.qr, h.key, h.search⟩

/-- R105: a `QR` command whose result fits the buffer and whose key is in order keeps the invariant; no search is left. -/
theorem finishQr_inv {s : State} {r : CmdResult QrKey} (e : Entropy) (h : s.Inv)
    (fits : ∀ x, r = .ok x → x.2.length ≤ s.params.qrBuf)
    (key : ∀ x, r = .ok x → ∀ k, x.1 = some k → k.Inv s.params) : ({ s with entropy := e }.finishQr r).Inv := by
  cases r with
  | error f => exact ⟨h.legal, h.bc, raise_inv _ _ f h.qr, h.key, nofun⟩
  | ok x =>
    exact ⟨h.legal, h.bc, succeed_inv _ _ x.2 h.qr (fits x rfl) (Params.qrBuf_lt h.legal), key x rfl, nofun⟩

/-- R106, R267: the fault of an unknown word keeps the invariant. -/
theorem finishIllegal_inv {s : State} (u : UnitId) (h : s.Inv) : (s.finishIllegal u).Inv := by
  cases u with
  | bc => exact finishBc_inv (r := .error .illegalCommand) h nofun
  | qr => exact finishQr_inv (r := .error .illegalCommand) s.entropy h nofun nofun

/-- R41, R42: two sound primes of half a legal key size make a key in order. -/
theorem keygen_key_inv {params : Params} {kbits p q : Nat} (size : badKeySize params kbits = false)
    (hp : ProbablePrime (kbits / 2) p) (hq : ProbablePrime (kbits / 2) q) :
    QrKey.Inv { p := p, q := q, n := p * q } params := by
  obtain ⟨-, low, high⟩ := (badKeySize_eq_false _ _).mp size
  exact ⟨kbits / 2, Nat.div_le_div_right low, Nat.div_le_div_right high, hp, hq, rfl⟩

/-- R214, R306: a turn of the latched `QR.KEYGEN` keeps the invariant: the search that goes on is this command's. -/
theorem keygenStep_inv {s : State} {kbits : Nat} (h : s.Inv) (busy : s.qr.shell.busy = true)
    (latched : decode .qr s.qr.shell.cmdlatch = .ok (.qrKeygen kbits)) : (keygenStep kbits s).Inv := by
  have turn : s.KeygenTurn kbits := .inr ⟨h, latched⟩
  rcases keygenStep_sound turn.probablePrime with
    ⟨e, eq⟩ | ⟨unkeyed, size, ⟨p, q, e, hp, hq, eq⟩ | ⟨f, e, hf, eq⟩⟩ <;> rw [eq]
  · exact finishQr_inv s.entropy h nofun nofun
  · refine finishQr_inv e h (fun x hx => ?_) (fun x hx k hk => ?_) <;> obtain rfl := Except.ok.inj hx
    · exact Nat.zero_le _
    · exact Option.some.inj hk ▸ keygen_key_inv size hp hq
  · exact ⟨h.legal, h.bc, h.qr, h.key, fun p hp => ⟨unkeyed, busy, kbits, latched, size, hf p hp⟩⟩

/-- R105: every command that the latched word stands for keeps the invariant. -/
theorem exec_inv {s t : State} {i : Instr} (h : s.Inv) (busy : (s.shell i.unit).busy = true)
    (latched : decode i.unit (s.shell i.unit).cmdlatch = .ok i) (he : exec i s = .next t) : t.Inv := by
  rcases exec_result he with ⟨-, rfl⟩ | ⟨-, rfl⟩ | ⟨kbits, rfl, rfl⟩
  · exact finishBc_inv h fun x hx => bcRule_ok_length h.legal hx
  · refine finishQr_inv _ h (fun x hx => qrRule_ok_length h hx) (fun x hx k hk => ?_)
    rw [qrRule_ok_key hx] at hk
    split at hk
    · exact nomatch hk
    · exact h.key k hk
  · exact keygenStep_inv h busy latched

theorem completeUnit_inv {s t : State} {u : UnitId} (h : s.Inv) (hc : completeUnit u s = .next t) : t.Inv := by
  rcases completeUnit_cases u s with ⟨-, e⟩ | ⟨busy, i, latched, e⟩ | ⟨-, -, e⟩ <;> rw [e] at hc
  · exact Host.Outcome.next.inj hc ▸ h
  · obtain rfl := unit_of_decode latched
    exact exec_inv h busy latched hc
  · exact Host.Outcome.next.inj hc ▸ finishIllegal_inv u h

/-! ## The host's accesses -/

theorem State.Inv.shell {s : State} (h : s.Inv) (u : UnitId) : (s.shell u).Inv (s.params.bufSize u) := by
  cases u with
  | bc => exact h.bc
  | qr => exact h.qr

/-- Registers and buffers in order, with `BUSY` and `CMDLATCH` as before, keep the invariant. -/
theorem setShell_inv {s : State} {u : UnitId} {sh : Shell} (h : s.Inv) (inv : sh.Inv (s.params.bufSize u))
    (busy : sh.busy = (s.shell u).busy) (cmdlatch : sh.cmdlatch = (s.shell u).cmdlatch) : (s.setShell u sh).Inv := by
  cases u with
  | bc => exact ⟨h.legal, inv, h.qr, h.key, h.search⟩
  | qr =>
    refine ⟨h.legal, h.bc, inv, h.key, fun p hp => ?_⟩
    obtain ⟨unkeyed, running, kbits, latched, size, prime⟩ := h.search p hp
    exact ⟨unkeyed, busy.trans running, kbits, by rw [← latched]; exact congrArg (decode .qr) cmdlatch, size, prime⟩

/-- R104: a start step keeps the invariant; the search left over is dropped. -/
theorem State.start_inv {s : State} (u : UnitId) (w : Word) (h : s.Inv) : (s.start u w).Inv := by
  cases u with
  | bc => exact ⟨h.legal, Machine.start_inv _ _ w h.bc, h.qr, h.key, h.search⟩
  | qr => exact ⟨h.legal, h.bc, Machine.start_inv _ _ w h.qr, h.key, nofun⟩

/-- R34: a byte stored inside the buffer. -/
theorem ibuf_set_inv {sh : Shell} {size i : Nat} (v : Byte) (h : sh.Inv size) (inside : i < size) :
    Shell.Inv { sh with ibuf := Memory.set sh.ibuf i v } size :=
  { h with
    ibufForm := wf_set _ _ _ h.ibufForm
    ibufInside := fun c hc => (mem_set _ _ _ _ hc).elim (fun e => e ▸ inside) (h.ibufInside c) }

/-- R71, R310: an accepted write keeps the invariant. -/
theorem writeEffect_inv {s : State} (u : UnitId) (off : BitVec 14) (v : Word) (h : s.Inv) : (s.writeEffect u off v).Inv := by
  have inv := h.shell u
  rcases writeEffect_cases s u off v with e | e | ⟨idle, e | e | e | ⟨i, inside, e⟩⟩ <;> rw [e]
  · exact h
  · exact setShell_inv h { inv with } rfl rfl
  · exact State.start_inv u v h
  · exact setShell_inv h { inv with busyClear := fun busy => nomatch idle.symm.trans busy } rfl rfl
  · exact setShell_inv h { inv with } rfl rfl
  · exact setShell_inv h (ibuf_set_inv _ inv inside) rfl rfl

theorem hostWrite_inv {s : State} (u : UnitId) (off : BitVec 14) (bits : Nat) (v : Word) (h : s.Inv) :
    (s.hostWrite u off bits v).Inv := by
  rcases hostWrite_cases s u off bits v with ⟨-, e⟩ | ⟨-, e⟩ <;> rw [e]
  · exact (writeEffect_inv u off v h).congr rfl rfl rfl
  · exact h.congr rfl rfl rfl

/-- R15, R109: a turn of the host leaves the units and the configuration alone, or it is a write. -/
theorem hostTurn_cases {s t : State} (h : hostTurn s = .next t) :
    (t.bc = s.bc ∧ t.qr = s.qr ∧ t.params = s.params) ∨
    ∃ u off bits v rest, t = { s with script := rest }.hostWrite u off bits v := by
  have read (rest : List HostOp) (u : UnitId) (off : BitVec 14) (bits : Nat) :
      let r := { s with script := rest }.hostRead u off bits
      r.bc = s.bc ∧ r.qr = s.qr ∧ r.params = s.params := by
    obtain ⟨bc, qr, -⟩ := hostRead_units { s with script := rest } u off bits
    exact ⟨bc, qr, hostRead_params _ u off bits⟩
  unfold hostTurn at h
  split at h
  · obtain rfl := Host.Outcome.next.inj h
    exact .inl ⟨rfl, rfl, rfl⟩
  · rename_i op rest script
    cases op with
    | read x bits =>
      rcases resolve_cases s.params x with ⟨u, off, e⟩ | ⟨a, -, e⟩ <;> simp only [State.hostOp, e] at h
      · obtain rfl := Host.Outcome.next.inj h
        exact .inl (read rest u off bits)
      · exact nomatch h
    | write x bits v =>
      rcases resolve_cases s.params x with ⟨u, off, e⟩ | ⟨a, -, e⟩ <;> simp only [State.hostOp, e] at h
      · exact .inr ⟨u, off, bits, v, rest, (Host.Outcome.next.inj h).symm⟩
      · exact nomatch h
    | waitIdle u | store u =>
      obtain rfl := Host.Outcome.next.inj h
      exact .inl (read _ u _ 32)
    | waitIrq u =>
      obtain rfl := Host.Outcome.next.inj h
      exact .inl ⟨rfl, rfl, rfl⟩

theorem hostTurn_inv {s t : State} (inv : s.Inv) (h : hostTurn s = .next t) : t.Inv := by
  rcases hostTurn_cases h with ⟨bc, qr, params⟩ | ⟨u, off, bits, v, rest, rfl⟩
  · exact inv.congr bc qr params
  · exact hostWrite_inv u off bits v (inv.congr rfl rfl rfl)

/-! ## Every step -/

/-- R300: a reset keeps the invariant. -/
theorem assertReset_inv {s : State} (h : s.Inv) : s.assertReset.Inv :=
  (reset_inv s.params h.legal).congr rfl rfl rfl

theorem takeTurn_inv {a : Agent} {s t : State} (inv : s.Inv) (h : takeTurn a s = .next t) : t.Inv := by
  cases a with
  | host => exact hostTurn_inv inv h
  | unit u => exact completeUnit_inv inv h
  | reset => exact Host.Outcome.next.inj h ▸ assertReset_inv inv

theorem completeUnit_params {u : UnitId} {s t : State} (h : completeUnit u s = .next t) : t.params = s.params := by
  rw [eq_withUnit_of_completeUnit h, withUnit_params]

/-- R50, R60: no agent changes the configuration. -/
theorem takeTurn_params {a : Agent} {s t : State} (h : takeTurn a s = .next t) : t.params = s.params := by
  cases a with
  | host =>
    rcases hostTurn_cases h with ⟨-, -, params⟩ | ⟨u, off, bits, v, rest, rfl⟩
    · exact params
    · exact hostWrite_params _ u off bits v
  | unit u => exact completeUnit_params h
  | reset =>
    obtain rfl := Host.Outcome.next.inj h
    rfl

/-- Settles O59: a step is a turn of one agent, and each agent's turn keeps the invariant. -/
theorem stepKeepsInvariant : Obligations.StepKeepsInvariant := by
  constructor
  · intro s t inv h
    obtain ⟨t', turn, rfl⟩ := step_eq_next s t h
    exact (takeTurn_inv inv turn).congr rfl rfl rfl
  · intro s t h
    obtain ⟨t', turn, rfl⟩ := step_eq_next s t h
    exact (endTurn_params t').trans (takeTurn_params turn)

end Sys2Proof.Machine
end

section
/-! SUPPORT. The window of a unit: what each place of it is, what a read of it answers and what a write to it does, of an idle
and of a busy unit (R28 to R37, R70 to R73, R79, R81, R270, R273, R310, R311). -/

namespace Sys2Proof.Machine

/-! ## The places of a window -/

theorem region_of_lt {off : BitVec 14} (low : off.toNat < 0x1000) : region off = .registers := if_pos low

theorem region_of_ge {off : BitVec 14} (high : 0x3000 ≤ off.toNat) : region off = .reserved := by
  unfold region
  rw [if_neg (by omega), if_neg (by omega), if_neg (by omega)]

@[simp] theorem region_offset (r : Register) : region r.offset = .registers := by cases r <;> rfl

@[simp] theorem registerAt_offset (r : Register) : registerAt r.offset = some r := by cases r <;> rfl

/-- R71: a register stands at its own offset only. -/
theorem eq_offset_of_registerAt {off : BitVec 14} {r : Register} (h : registerAt off = some r) : off = r.offset := by
  unfold registerAt at h
  split_ifs at h with e e e e e e <;> exact Option.some.inj h ▸ e

/-- R37: beyond `OLEN` there is no register. -/
theorem registerAt_of_ge {off : BitVec 14} (h : 0x18 ≤ off.toNat) : registerAt off = none := by
  cases hr : registerAt off with
  | none => rfl
  | some r =>
    have last : r.offset.toNat ≤ 0x14 := by cases r <;> decide
    rw [eq_offset_of_registerAt hr] at h
    omega

/-- R79: the register area takes aligned 32-bit accesses. -/
theorem accepts_of_lt {off : BitVec 14} (low : off.toNat < 0x1000) (aligned : off.toNat % 4 = 0) :
    accepts off 32 = true := by
  simp [accepts, region_of_lt low, aligned]

@[simp] theorem accepts_offset (r : Register) : accepts r.offset 32 = true := by cases r <;> rfl

/-- R79: the buffers take 8-bit accesses. -/
theorem accepts_bufferOffset (b : BufferId) {i : Nat} (h : i < 0x1000) : accepts (bufferOffset b i) 8 = true := by
  rw [accepts, region_bufferOffset b i h]
  rfl

/-! ## Reads -/

theorem readIsFree_of_idle {s : State} {u : UnitId} (idle : (s.shell u).busy = false) (off : BitVec 14) :
    s.readIsFree u off = false := by
  rw [State.readIsFree, idle, Bool.false_and]

/-- R71, R81: an accepted read of a place whose value is defined answers what the window holds there. -/
theorem hostRead_of_defined {s : State} {u : UnitId} {off : BitVec 14} {bits : Nat} (ok : accepts off bits = true)
    (defined : s.readIsFree u off = false) :
    s.hostRead u off bits = s.answer (replyValue bits (s.windowValue u off)) := by
  rw [State.hostRead, State.readValue, ok, defined]
  rfl

/-- R71: a register holds its own word. -/
theorem windowValue_offset (s : State) (u : UnitId) (r : Register) :
    s.windowValue u r.offset = s.registerWord u (some r) := by
  rw [State.windowValue, region_offset, registerAt_offset]

/-- R28 to R33: a read of a register whose value is defined. -/
theorem hostRead_register {s : State} {u : UnitId} (r : Register) (defined : s.readIsFree u r.offset = false) :
    s.hostRead u r.offset 32 = s.answer (.word (s.registerWord u (some r))) := by
  rw [hostRead_of_defined (accepts_offset r) defined, windowValue_offset]
  rfl

/-- R31: the word of `CTRL`. -/
theorem ctrlWord_eq (s : State) (u : UnitId) : s.ctrlWord u = if (s.shell u).ie then 1 else 0 := by
  rw [State.ctrlWord]
  cases (s.shell u).ie <;> rfl

/-- R31, R81: a read of `CTRL`, busy or not. -/
theorem hostRead_ctrl (s : State) (u : UnitId) :
    s.hostRead u Register.ctrl.offset 32 = s.answer (.word (if (s.shell u).ie then 1 else 0)) := by
  rw [hostRead_register .ctrl (Bool.and_false _), ← ctrlWord_eq]
  rfl

/-- R37: a read of a reserved offset of the register area. -/
theorem hostRead_reservedRegister {s : State} {u : UnitId} (idle : (s.shell u).busy = false) {off : BitVec 14}
    (beyond : 0x18 ≤ off.toNat) (low : off.toNat < 0x1000) (aligned : off.toNat % 4 = 0) :
    s.hostRead u off 32 = s.answer (.word 0) := by
  rw [hostRead_of_defined (accepts_of_lt low aligned) (readIsFree_of_idle idle off), State.windowValue, region_of_lt low,
    registerAt_of_ge beyond]
  rfl

/-- R34, R35, R73: a read of a byte of a buffer, which is 0 beyond the buffer's size. -/
theorem hostRead_buffer {s : State} {u : UnitId} (idle : (s.shell u).busy = false) (b : BufferId) {i : Nat}
    (h : i < 0x1000) :
    s.hostRead u (bufferOffset b i) 8 =
      s.answer (.byte (if i < s.params.bufSize u then s.bufByte u b i else 0)) := by
  rw [hostRead_of_defined (accepts_bufferOffset b h) (readIsFree_of_idle idle _), State.windowValue,
    region_bufferOffset b i h, replyValue, if_pos rfl]
  dsimp only
  split_ifs <;> simp

/-- R71: a read of the reserved quarter. -/
theorem hostRead_reserved {s : State} {u : UnitId} (idle : (s.shell u).busy = false) {off : BitVec 14} {bits : Nat}
    (high : 0x3000 ≤ off.toNat) (ok : accepts off bits = true) :
    s.hostRead u off bits = s.answer (replyValue bits 0) := by
  rw [hostRead_of_defined ok (readIsFree_of_idle idle off), State.windowValue, region_of_ge high]

/-- R79: the reserved quarter takes 8-bit accesses and aligned 32-bit accesses. -/
theorem accepts_of_ge {off : BitVec 14} (high : 0x3000 ≤ off.toNat) :
    accepts off 8 = true ∧ (off.toNat % 4 = 0 → accepts off 32 = true) := by
  simp [accepts, region_of_ge high]

/-- R29: the bits of `STATUS`. -/
theorem statusWord_bits (s : State) (u : UnitId) :
    (s.statusWord u).getLsbD 1 = (s.shell u).done ∧ (s.statusWord u).getLsbD 2 = (s.shell u).err ∧
    (s.statusWord u).getLsbD 3 = s.keyed u ∧ ∀ j, 4 ≤ j → (s.statusWord u).getLsbD j = false := by
  have low : ∀ keyed err done busy : Bool,
      let w := (BitVec.ofBool keyed ++ BitVec.ofBool err ++ BitVec.ofBool done ++ BitVec.ofBool busy).setWidth 32
      w.getLsbD 1 = done ∧ w.getLsbD 2 = err ∧ w.getLsbD 3 = keyed := by decide
  obtain ⟨one, two, three⟩ := low (s.keyed u) (s.shell u).err (s.shell u).done (s.shell u).busy
  refine ⟨one, two, three, fun j hj => ?_⟩
  rw [State.statusWord, BitVec.getLsbD_setWidth, BitVec.getLsbD_of_ge _ _ hj, Bool.and_false]

/-- Settles O12, by the place that each offset names. -/
theorem windowReads : Obligations.WindowReads := by
  refine ⟨fun s u => ?_, fun s u idle => ?_⟩
  · obtain ⟨done, err, keyed, above⟩ := statusWord_bits s u
    exact ⟨statusWord_bit_zero s u, done, err, keyed, above, hostRead_status s u, hostRead_ctrl s u⟩
  · have register (r : Register) := hostRead_register r (readIsFree_of_idle idle r.offset)
    refine ⟨register .cmd, register .errcode, register .ilen, register .olen,
      fun off => hostRead_reservedRegister idle,
      fun i hi => ⟨hostRead_buffer idle .ibuf hi, hostRead_buffer idle .obuf hi⟩, fun off high => ?_⟩
    obtain ⟨byte, word⟩ := accepts_of_ge high
    exact ⟨hostRead_reserved idle high byte, fun aligned => hostRead_reserved idle high (word aligned)⟩

/-! ## Writes -/

@[simp] theorem shell_answer (s : State) (r : Reply) (u : UnitId) : (s.answer r).shell u = s.shell u := by
  cases u <;> rfl

/-- Writing the registers back as they are changes nothing. -/
@[simp] theorem setShell_shell (s : State) (u : UnitId) : s.setShell u (s.shell u) = s := by cases u <;> rfl

/-- The state after a register is written and the write answered. -/
theorem setShell_answer (s : State) (u : UnitId) (sh : Shell) (r : Reply) :
    (s.setShell u sh).answer r = { s.setShell u sh with replies := r :: s.replies } := by
  rw [State.answer, setShell_replies]

theorem hostWrite_of_accepts (s : State) (u : UnitId) {off : BitVec 14} {bits : Nat} (v : Word)
    (ok : accepts off bits = true) : s.hostWrite u off bits v = (s.writeEffect u off v).answer .written :=
  if_pos ok

/-- R71: a write to a register's offset. -/
theorem hostWrite_register (s : State) (u : UnitId) (r : Register) (v : Word) :
    s.hostWrite u r.offset 32 v = (s.writeRegister u (some r) v).answer .written := by
  rw [hostWrite_of_accepts s u v (accepts_offset r), State.writeEffect, region_offset, registerAt_offset]

/-- R31: a write to `CTRL`, busy or not. -/
theorem hostWrite_ctrl (s : State) (u : UnitId) (v : Word) :
    s.hostWrite u Register.ctrl.offset 32 v = (s.setShell u { s.shell u with ie := v.getLsbD 0 }).answer .written :=
  hostWrite_register s u .ctrl v

/-- R270: the interrupt line after a write to `CTRL`. -/
theorem irq_hostWrite_ctrl (s : State) (u : UnitId) (v : Word) :
    (s.hostWrite u Register.ctrl.offset 32 v).irq u = (v.getLsbD 0 && (s.shell u).done) := by
  rw [hostWrite_ctrl, State.irq, shell_answer, shell_setShell_self]

/-- R29, R273: a write to `STATUS` of an idle unit. -/
theorem hostWrite_status {s : State} {u : UnitId} (idle : (s.shell u).busy = false) (v : Word) :
    s.hostWrite u Register.status.offset 32 v =
      (s.setShell u { s.shell u with done := (s.shell u).done && !v.getLsbD 1 }).answer .written := by
  rw [hostWrite_register, State.writeRegister, idle, Bool.false_or]
  cases v.getLsbD 1 with
  | false =>
    rw [Bool.not_false, Bool.and_true]
    exact congrArg (State.answer · .written) (setShell_shell s u).symm
  | true =>
    rw [Bool.not_true, Bool.and_false]
    rfl

/-- R32: a write to `ILEN` of an idle unit. -/
theorem hostWrite_ilen {s : State} {u : UnitId} (idle : (s.shell u).busy = false) (v : Word) :
    s.hostWrite u Register.ilen.offset 32 v = (s.setShell u { s.shell u with ilen := v }).answer .written := by
  rw [hostWrite_register, State.writeRegister, idle]
  rfl

/-- R37: a write to a reserved offset of the register area is ignored. -/
theorem hostWrite_reservedRegister (s : State) (u : UnitId) (v : Word) {off : BitVec 14} (beyond : 0x18 ≤ off.toNat)
    (low : off.toNat < 0x1000) (aligned : off.toNat % 4 = 0) : s.hostWrite u off 32 v = s.answer .written := by
  rw [hostWrite_of_accepts s u v (accepts_of_lt low aligned), State.writeEffect, region_of_lt low, registerAt_of_ge beyond]
  rfl

/-- No write reaches a key. -/
theorem hostWrite_keys (s : State) (u : UnitId) (off : BitVec 14) (bits : Nat) (v : Word) :
    (s.hostWrite u off bits v).bc.key = s.bc.key ∧ (s.hostWrite u off bits v).qr.key = s.qr.key := by
  rcases hostWrite_cases s u off bits v with ⟨-, e⟩ | ⟨-, e⟩ <;> rw [e]
  · rcases writeEffect_cases s u off v with e | e | ⟨-, e | e | e | ⟨i, -, e⟩⟩ <;> rw [e] <;> simp
  · exact ⟨rfl, rfl⟩

/-- A write to one unit leaves the registers and buffers of the other. -/
theorem shell_hostWrite_other (s : State) {u u' : UnitId} (h : u' ≠ u) (off : BitVec 14) (bits : Nat) (v : Word) :
    (s.hostWrite u off bits v).shell u' = s.shell u' :=
  (sameView_hostWrite h.symm s off bits v).shell_eq

/-- Settles O13, by the rule of each register. -/
theorem registerWrites : Obligations.RegisterWrites := by
  refine fun s u v => ⟨(hostWrite_ctrl s u v).trans (setShell_answer s u _ _), irq_hostWrite_ctrl s u v, fun idle =>
    ⟨(hostWrite_status idle v).trans (setShell_answer s u _ _), (hostWrite_ilen idle v).trans (setShell_answer s u _ _),
      fun off place => ?_⟩, fun off _ => ?_⟩
  · rcases place with rfl | rfl | ⟨beyond, low, aligned⟩
    · exact hostWrite_register s u .errcode v
    · exact hostWrite_register s u .olen v
    · exact hostWrite_reservedRegister s u v beyond low aligned
  · obtain ⟨bc, qr⟩ := hostWrite_keys s u off 32 v
    exact ⟨bc, qr, fun u' other => shell_hostWrite_other s other off 32 v⟩

/-! ## Writes to the buffers -/

/-- R71, R72: a write to a byte of a buffer window. -/
theorem hostWrite_buffer (s : State) (u : UnitId) (b : BufferId) {i : Nat} (v : Word) (h : i < 0x1000) :
    s.hostWrite u (bufferOffset b i) 8 v = (s.writeBuffer u b i (v.setWidth 8)).answer .written := by
  rw [hostWrite_of_accepts s u v (accepts_bufferOffset b h), State.writeEffect, region_bufferOffset b i h]

/-- R34: a byte written to `IBUF` of an idle unit, inside the buffer. -/
theorem writeBuffer_inside {s : State} {u : UnitId} (idle : (s.shell u).busy = false) {i : Nat}
    (inside : i < s.params.bufSize u) (v : Byte) :
    s.writeBuffer u .ibuf i v = s.setShell u { s.shell u with ibuf := Memory.set (s.shell u).ibuf i v } := by
  simp [State.writeBuffer, idle, inside]

/-- R71: a byte that the buffer does not have. -/
theorem writeBuffer_outside (s : State) (u : UnitId) {i : Nat} (outside : s.params.bufSize u ≤ i) (v : Byte) :
    s.writeBuffer u .ibuf i v = s := by
  simp [State.writeBuffer, Nat.not_lt.mpr outside]

/-- R81: what every byte of `IBUF` reads as after the store of one. -/
theorem bufByte_set_ibuf (s : State) (u : UnitId) (i j : Nat) (v : Byte) :
    (s.setShell u { s.shell u with ibuf := Memory.set (s.shell u).ibuf i v }).bufByte u .ibuf j =
      if j = i then v else s.bufByte u .ibuf j := by
  simp only [State.bufByte, shell_setShell_self, setShell_resets, buffer_ibuf]
  split_ifs with h
  · rw [h, find_set_self, Option.getD_some]
  · rw [find_set_other _ _ _ _ h]

/-- The bus's answer is in no buffer. -/
@[simp] theorem bufByte_answer (s : State) (r : Reply) (u : UnitId) (b : BufferId) (i : Nat) :
    (s.answer r).bufByte u b i = s.bufByte u b i :=
  bufByte_congr s (s.answer r) u b i rfl (by rw [shell_answer])

/-- R71: a write to the reserved quarter is ignored. -/
theorem hostWrite_reserved (s : State) (u : UnitId) (v : Word) {off : BitVec 14} {bits : Nat} (high : 0x3000 ≤ off.toNat)
    (ok : accepts off bits = true) : s.hostWrite u off bits v = s.answer .written := by
  rw [hostWrite_of_accepts s u v ok, State.writeEffect, region_of_ge high]

/-- R34, R81: the state after the store of one byte in `IBUF`. -/
theorem ibuf_store_result {s t : State} {u : UnitId} {i : Nat} {v : Byte}
    (store : t = (s.setShell u { s.shell u with ibuf := Memory.set (s.shell u).ibuf i v }).answer .written) :
    (∀ j, t.bufByte u .ibuf j = if j = i then v else s.bufByte u .ibuf j) ∧
    (∀ j, t.bufByte u .obuf j = s.bufByte u .obuf j) ∧ t.shell u = { s.shell u with ibuf := (t.shell u).ibuf } ∧
    t.replies = .written :: s.replies := by
  subst store
  refine ⟨fun j => by rw [bufByte_answer, bufByte_set_ibuf], fun j => ?_, by rw [shell_answer, shell_setShell_self],
    by rw [answer_replies, setShell_replies]⟩
  rw [bufByte_answer]
  exact bufByte_congr s _ u .obuf j (setShell_resets s u _) (by rw [shell_setShell_self]; rfl)

/-- Settles O14: the store of one byte is all that a write to a buffer window can do. -/
theorem bufferWrites : Obligations.BufferWrites := by
  refine fun s u v idle => ⟨fun i hi inside => ?_, fun i hi outside => ?_,
    fun i hi => hostWrite_buffer s u .obuf v hi, fun off bits high ok => hostWrite_reserved s u v high ok⟩
  · have store := hostWrite_buffer s u .ibuf v hi
    rw [writeBuffer_inside idle inside] at store
    obtain ⟨ibuf, obuf, shell, replies⟩ := ibuf_store_result store
    obtain ⟨bc, qr⟩ := hostWrite_keys s u (bufferOffset .ibuf i) 8 v
    exact ⟨(ibuf i).trans (if_pos rfl), fun j other => (ibuf j).trans (if_neg other), obuf, shell,
      fun u' other => shell_hostWrite_other s other _ 8 v, bc, qr, hostWrite_params s u _ 8 v, replies⟩
  · exact (hostWrite_buffer s u .ibuf v hi).trans (by rw [writeBuffer_outside s u outside]; rfl)

/-! ## A busy unit -/

/-- R310: a write to a busy unit elsewhere than at `CTRL` has no effect. -/
theorem writeEffect_of_busy {s : State} {u : UnitId} (busy : (s.shell u).busy = true) {off : BitVec 14}
    (h : off ≠ Register.ctrl.offset) (v : Word) : s.writeEffect u off v = s := by
  unfold State.writeEffect
  cases region off with
  | reserved => rfl
  | buffer b i => cases b <;> simp [State.writeBuffer, busy]
  | registers =>
    cases hr : registerAt off with
    | none => rfl
    | some r =>
      cases r with
      | ctrl => exact absurd (eq_offset_of_registerAt hr) h
      | cmd | status | ilen => simp [State.writeRegister, busy]
      | errcode | olen => rfl

/-- R311: a read of a busy unit elsewhere than at `STATUS` and `CTRL` has no defined value. -/
theorem readIsFree_of_busy {s : State} {u : UnitId} (busy : (s.shell u).busy = true) {off : BitVec 14}
    (hs : off ≠ Register.status.offset) (hc : off ≠ Register.ctrl.offset) : s.readIsFree u off = true := by
  simp [State.readIsFree, readableWhileBusy, busy, hs, hc]

/-- R311: such a read is counted, and answers a free word. -/
theorem hostRead_of_free {s : State} {u : UnitId} {off : BitVec 14} {bits : Nat} (ok : accepts off bits = true)
    (free : s.readIsFree u off = true) :
    s.hostRead u off bits =
      { s with busyReads := s.busyReads + 1 }.answer (replyValue bits (Config.busyRead s.busyReads)) := by
  rw [State.hostRead, State.readValue, ok, free]
  rfl

/-- R29: `STATUS` of a busy unit in order. -/
theorem statusWord_of_busy {s : State} {u : UnitId} (busy : (s.shell u).busy = true) (inv : s.Inv) :
    s.statusWord u = if s.keyed u then 0x09 else 0x01 := by
  obtain ⟨done, err⟩ := (inv.shell u).busyClear busy
  rw [State.statusWord, busy, done, err]
  cases s.keyed u <;> rfl

/-- Settles O15. -/
theorem busyAccesses : Obligations.BusyAccesses := by
  intro s u off bits v busy ok
  refine ⟨fun h => ?_, ?_, statusWord_of_busy busy, fun hs hc => ⟨_, hostRead_of_free ok (readIsFree_of_busy busy hs hc)⟩⟩
  · rw [hostWrite_of_accepts s u v ok, writeEffect_of_busy busy h]
    rfl
  · rintro rfl
    exact (hostWrite_of_accepts s u v ok).trans (setShell_answer s u _ _)

end Sys2Proof.Machine
end

section
/-! SUPPORT. Which accesses the window of a unit takes, what the block and message commands of `BC` complete with, and that a host
inside the windows never stops the machine (R76, R79, R82, R83, R135, R136, R172, R174). -/

namespace Sys2Proof.Machine

/-! ## Widths and alignments -/

/-- R72, R73: between the registers and the reserved quarter stand the two buffers. -/
theorem region_of_between {off : BitVec 14} (low : 0x1000 ≤ off.toNat) (high : off.toNat < 0x3000) :
    ∃ b i, region off = .buffer b i := by
  unfold region
  rw [if_neg (by omega)]
  split_ifs <;> exact ⟨_, _, rfl⟩

/-- R79: the accesses that each part of the window takes. -/
theorem accepts_iff (off : BitVec 14) (bits : Nat) :
    accepts off bits = true ↔
      (off.toNat < 0x1000 ∧ bits = 32 ∧ off.toNat % 4 = 0) ∨
      (0x1000 ≤ off.toNat ∧ off.toNat < 0x3000 ∧ bits = 8) ∨
      (0x3000 ≤ off.toNat ∧ (bits = 8 ∨ (bits = 32 ∧ off.toNat % 4 = 0))) := by
  rcases lt_or_ge off.toNat 0x1000 with low | low
  · simp only [accepts, region_of_lt low, Bool.and_eq_true, beq_iff_eq]
    omega
  · rcases lt_or_ge off.toNat 0x3000 with high | high
    · obtain ⟨b, i, place⟩ := region_of_between low high
      simp only [accepts, place, beq_iff_eq]
      omega
    · simp only [accepts, region_of_ge high, Bool.or_eq_true, Bool.and_eq_true, beq_iff_eq]
      omega

/-- R79: a read that the window does not take is answered with `HostFault` and has no effect. -/
theorem hostRead_of_refused (s : State) (u : UnitId) {off : BitVec 14} {bits : Nat} (refused : accepts off bits = false) :
    s.hostRead u off bits = s.answer .hostFault := by
  rw [State.hostRead, refused]
  rfl

/-- R79: so is a write. -/
theorem hostWrite_of_refused (s : State) (u : UnitId) {off : BitVec 14} {bits : Nat} (v : Word)
    (refused : accepts off bits = false) : s.hostWrite u off bits v = s.answer .hostFault := by
  rw [State.hostWrite, refused]
  rfl

/-- Settles O11, by the part of the window that the offset lies in. -/
theorem windowWidths : Obligations.WindowWidths := fun off bits =>
  ⟨accepts_iff off bits, fun refused s u v => ⟨hostRead_of_refused s u refused, hostWrite_of_refused s u v refused⟩⟩

/-! ## Blocks and messages -/

/-- R105: a `BC` command whose rule succeeds completes with the rule's key and bytes, and draws nothing. -/
theorem exec_of_bcRule_ok {i : Instr} {s : State} {key : Option BcKey} {out : List Byte} (hu : i.unit = .bc)
    (rule : bcRule i s = .ok (key, out)) :
    ∃ t, exec i s = .next t ∧ Completed s t .bc out ∧ t.bc.key = key ∧ t.entropy = s.entropy ∧
      t.bc.shell.olen = BitVec.ofNat 32 out.length :=
  ⟨s.finishBc (.ok (key, out)), by rw [exec_eq_bcRule hu, rule], completed_finishBc s (key, out), rfl, rfl, rfl⟩

/-- R74: an operand of 8 bytes. -/
theorem operand_of_eight {s : State} (u : UnitId) (ilen : (s.shell u).ilen = 8) :
    let b := s.bufByte u .ibuf
    s.operand u = [b 0, b 1, b 2, b 3, b 4, b 5, b 6, b 7] := by
  rw [State.operand, ilen]
  rfl

/-- R76: the bytes that a block function makes of an operand of 8 bytes. -/
theorem mapBlocks_operand_of_eight (f : Word → Word → Word × Word) {s : State} (u : UnitId)
    (ilen : (s.shell u).ilen = 8) :
    let b := s.bufByte u .ibuf
    mapBlocks f (s.operand u) = blockBytes (f (beWord (b 0) (b 1) (b 2) (b 3)) (beWord (b 4) (b 5) (b 6) (b 7))) := by
  rw [operand_of_eight u ilen]
  exact List.append_nil _

/-- R135, R136: a one-block command, whose rule takes the block function `f`, on a keyed unit with `ILEN` = 8. -/
theorem exec_oneBlock {i : Instr} {f : BcKey → Word → Word → Word × Word} {s : State} {k : BcKey} (hu : i.unit = .bc)
    (rule : bcRule i s = oneBlockRule f s) (keyed : s.bc.key = some k) (ilen : s.bc.shell.ilen = 8) :
    let b := s.bufByte .bc .ibuf
    let out := blockBytes (f k (beWord (b 0) (b 1) (b 2) (b 3)) (beWord (b 4) (b 5) (b 6) (b 7)))
    ∃ t, exec i s = .next t ∧ Completed s t .bc out ∧ t.bc.key = some k ∧ t.entropy = s.entropy ∧
      t.bc.shell.olen = 8 := by
  have ok := (oneBlockRule_eq_ok f s _).mpr ⟨k, keyed, ilen, rfl⟩
  rw [mapBlocks_operand_of_eight (f k) .bc ilen] at ok
  exact exec_of_bcRule_ok hu (rule.trans ok)

/-- Settles O24: both commands share one rule. -/
theorem oneBlockResult : Obligations.OneBlockResult := fun _ _ keyed ilen =>
  ⟨exec_oneBlock (i := .bcEncb) (f := BcKey.encrypt) rfl rfl keyed ilen,
    exec_oneBlock (i := .bcDecb) (f := BcKey.decrypt) rfl rfl keyed ilen⟩

/-- R82, R172: the number of bytes that `BC.ENC` makes of an operand. -/
theorem mapBlocks_pad_operand_length (f : Word → Word → Word × Word) (s : State) (u : UnitId) :
    (mapBlocks f (pad (s.operand u))).length = 8 * (((s.shell u).ilen.toNat + 8) / 8) := by
  rw [mapBlocks_length, pad_length, operand_length]
  omega

/-- R33: `OLEN` holds the number of result bytes. -/
theorem olen_toNat_of_lt {n : Nat} {olen : Word} (h : olen = BitVec.ofNat 32 n) (fits : n < 2 ^ 32) : olen.toNat = n := by
  rw [h, BitVec.toNat_ofNat, Nat.mod_eq_of_lt fits]

/-- Settles O26: the padded message of a legal configuration fits `OBUF`, so its length fits `OLEN`. -/
theorem bcEncResult : Obligations.BcEncResult := by
  intro s k legal keyed fits
  have rule : bcRule .bcEnc s = .ok (some k, mapBlocks k.encrypt (pad (s.operand .bc))) :=
    (bcEncRule_eq_ok s _).mpr ⟨k, keyed, fits, rfl⟩
  have length := mapBlocks_pad_operand_length k.encrypt s .bc
  have short := lt_of_le_of_lt (bcRule_ok_length legal rule) (Params.bcBuf_lt legal)
  obtain ⟨t, run, completed, key, entropy, olen⟩ := exec_of_bcRule_ok rfl rule
  exact ⟨t, run, completed, key, entropy, (olen_toNat_of_lt olen short).trans length⟩

/-- R171, R174: unpadding removes 1 to 8 bytes. -/
theorem unpad_ok_length {x out : List Byte} (h : unpad x = .ok out) :
    x.length - 8 ≤ out.length ∧ out.length ≤ x.length - 1 := by
  unfold unpad at h
  dsimp only at h
  split_ifs at h with range _
  obtain rfl := Except.ok.inj h
  rw [List.length_take]
  omega

/-- Settles O28: the decrypted text has the length of the operand, and unpadding removes 1 to 8 bytes of it. -/
theorem bcDecResult : Obligations.BcDecResult := by
  intro s k out keyed nonempty whole fits unpadded
  have rule : bcRule .bcDec s = .ok (some k, out) :=
    (bcDecRule_eq_ok s _).mpr ⟨k, out, keyed, nonempty, whole, fits, unpadded, rfl⟩
  obtain ⟨t, run, completed, key, entropy, olen⟩ := exec_of_bcRule_ok rfl rule
  obtain ⟨low, high⟩ := unpad_ok_length unpadded
  rw [mapBlocks_length, operand_length, shell_bc] at low high
  have bound : s.bc.shell.ilen.toNat < 2 ^ 32 := s.bc.shell.ilen.isLt
  have length := olen_toNat_of_lt olen (by omega)
  exact ⟨t, run, completed, key, entropy, by omega, by omega⟩

/-! ## A host inside the windows -/

theorem withUnit_script (s t : State) (u : UnitId) : (s.withUnit u t).script = s.script := by cases u <;> rfl

/-- R105, R262: every command ends in a next state. -/
theorem exec_total (i : Instr) (s : State) : ∃ t, exec i s = .next t := by cases i <;> exact ⟨_, rfl⟩

/-- R105, R106: every turn of a unit ends in a next state. -/
theorem completeUnit_total (u : UnitId) (s : State) : ∃ t, completeUnit u s = .next t := by
  rcases completeUnit_cases u s with ⟨-, h⟩ | ⟨-, i, -, h⟩ | ⟨-, -, h⟩
  · exact ⟨s, h⟩
  · exact h ▸ exec_total i s
  · exact ⟨_, h⟩

/-- R15: no unit reaches into the host's script. -/
theorem completeUnit_script {u : UnitId} {s t : State} (h : completeUnit u s = .next t) : t.script = s.script := by
  rw [eq_withUnit_of_completeUnit h, withUnit_script]

@[simp] theorem hostRead_script (s : State) (u : UnitId) (off : BitVec 14) (bits : Nat) :
    (s.hostRead u off bits).script = s.script := by
  obtain ⟨-, -, script⟩ := hostRead_units s u off bits
  exact script

@[simp] theorem hostWrite_script (s : State) (u : UnitId) (off : BitVec 14) (bits : Nat) (v : Word) :
    (s.hostWrite u off bits v).script = s.script := by
  rcases hostWrite_cases s u off bits v with ⟨-, e⟩ | ⟨-, e⟩ <;> rw [e, answer_script]
  rcases writeEffect_cases s u off v with e | e | ⟨-, e | e | e | ⟨i, -, e⟩⟩ <;> rw [e] <;> simp

/-- An access by window offset stays inside the windows. -/
theorem inWindows_window (p : Params) (u : UnitId) (off : BitVec 14) : (Target.window u off).inWindows p := ⟨(u, off), rfl⟩

/-- R83, R109: an action that stays inside the windows has its turn; the configuration is kept, and what the turn puts before the
rest of the script stays inside the windows too. -/
theorem hostOp_of_inWindows {s : State} {op : HostOp} (rest : List HostOp) (h : op.inWindows s.params) :
    ∃ t, s.hostOp op rest = .next t ∧ t.params = s.params ∧ ∀ op' ∈ t.script, op' ∈ rest ∨ op'.inWindows s.params := by
  cases op with
  | read x bits =>
    obtain ⟨⟨u, off⟩, target⟩ := h
    refine ⟨{ s with script := rest }.hostRead u off bits, by simp only [State.hostOp, target], hostRead_params _ u off bits, ?_⟩
    rw [hostRead_script]
    exact fun _ => .inl
  | write x bits v =>
    obtain ⟨⟨u, off⟩, target⟩ := h
    refine ⟨{ s with script := rest }.hostWrite u off bits v, by simp only [State.hostOp, target],
      hostWrite_params _ u off bits v, ?_⟩
    rw [hostWrite_script]
    exact fun _ => .inl
  | waitIdle u =>
    refine ⟨_, rfl, hostRead_params _ u _ 32, ?_⟩
    rw [hostRead_script]
    intro op' mem
    dsimp only at mem
    split_ifs at mem
    · exact (List.mem_cons.mp mem).elim (fun same => .inr (same ▸ h)) .inl
    · exact .inl mem
  | waitIrq u =>
    refine ⟨_, rfl, rfl, ?_⟩
    intro op' mem
    dsimp only at mem
    split_ifs at mem
    · exact .inl mem
    · exact (List.mem_cons.mp mem).elim (fun same => .inr (same ▸ h)) .inl
  | store u =>
    refine ⟨_, rfl, hostRead_params _ u _ 32, ?_⟩
    rw [hostRead_script]
    intro op' mem
    rcases List.mem_append.mp mem with bytes | mem
    · obtain ⟨i, -, rfl⟩ := List.mem_map.mp bytes
      exact .inr (inWindows_window s.params u _)
    · exact .inl mem

/-- Whether a state is safe depends on its script and configuration alone. -/
theorem State.Safe.congr {s t : State} (h : s.Safe) (script : t.script = s.script) (params : t.params = s.params) : t.Safe := by
  rw [State.Safe, script, params]
  exact h

/-- R83: a host inside the windows has its turn, and stays inside them. -/
theorem hostTurn_of_safe {s : State} (safe : s.Safe) : ∃ t, hostTurn s = .next t ∧ t.Safe := by
  cases script : s.script with
  | nil => exact ⟨s, by simp only [hostTurn, script], safe⟩
  | cons op rest =>
    rw [State.Safe, script, List.forall_mem_cons] at safe
    obtain ⟨head, tail⟩ := safe
    obtain ⟨t, turn, params, actions⟩ := hostOp_of_inWindows rest head
    refine ⟨t, (hostTurn_cons script).trans turn, fun op' mem => ?_⟩
    rw [params]
    exact (actions op' mem).elim (tail op') id

/-- R15, R300: every agent has its turn in a safe state. -/
theorem takeTurn_of_safe (a : Agent) {s : State} (safe : s.Safe) : ∃ t, takeTurn a s = .next t ∧ t.Safe := by
  cases a with
  | host => exact hostTurn_of_safe safe
  | unit u =>
    obtain ⟨t, turn⟩ := completeUnit_total u s
    exact ⟨t, turn, safe.congr (completeUnit_script turn) (completeUnit_params turn)⟩
  | reset => exact ⟨s.assertReset, rfl, safe.congr rfl rfl⟩

/-- Settles O60: a step is a turn of one agent. -/
theorem safeMachinesGoOn : Obligations.SafeMachinesGoOn := by
  intro s safe
  obtain ⟨t, turn, safe'⟩ := takeTurn_of_safe s.currentAgent safe
  exact ⟨t.endTurn, step_next s t turn, safe'.congr rfl rfl⟩

end Sys2Proof.Machine
end

section
/-! SUPPORT. The command word: its fields, that the decoder and the encoder agree, and that the decoder accepts the opcode map's words
alone (R101 to R103, R106, R108). -/

namespace Sys2Proof.Machine

/-! ## The fields of a command word -/

/-- R101: a word is its `OP` and its `ARG`. -/
theorem toNat_eq_fields (w : Word) : w.toNat = (opField w).toNat + (argField w).toNat * 0x100 := by
  simp only [opField, argField, BitVec.extractLsb'_toNat, Nat.shiftRight_eq_div_pow]
  omega

/-- R102: `ARG` is an immediate of `n` bits and the bits above it: `kbits` and `keygenRest` for n = 16, `k` and `isprimeRest` for
n = 8. -/
theorem argField_eq_immediate {n : Nat} (hn : n ≤ 24) (w : Word) :
    (argField w).toNat = (w.extractLsb' 8 n).toNat + 2 ^ n * (w.extractLsb' (8 + n) (24 - n)).toNat := by
  have width : 2 ^ 24 = 2 ^ n * 2 ^ (24 - n) := by rw [← Nat.pow_add, Nat.add_sub_cancel' hn]
  simp only [argField, BitVec.extractLsb'_toNat, Nat.shiftRight_eq_div_pow]
  rw [width, Nat.mod_mul, Nat.div_div_eq_div_mul, ← Nat.pow_add]

/-- R101: two words with the same fields are the same word. -/
theorem eq_of_fields {w w' : Word} (op : opField w = opField w') (arg : argField w = argField w') : w = w' :=
  BitVec.eq_of_toNat_eq (by rw [toNat_eq_fields w, toNat_eq_fields w', op, arg])

/-- `ARG` of an opcode byte with an immediate above it, as R108 adds them. -/
theorem argField_of_word (op imm : Nat) (hop : op < 0x100) (himm : imm < 2 ^ 24) :
    (argField (BitVec.ofNat 32 (op + imm * 0x100))).toNat = imm := by
  simp only [argField, BitVec.extractLsb'_toNat, Nat.shiftRight_eq_div_pow, BitVec.toNat_ofNat]
  omega

/-- R102, R108: the immediate is read back from a word made with it, and the bits above it are 0. -/
theorem immediate_of_word {op imm n : Nat} (hop : op < 0x100) (hn : n ≤ 24) (himm : imm < 2 ^ n) :
    (BitVec.ofNat 32 (op + imm * 0x100)).extractLsb' (8 + n) (24 - n) = 0 ∧
    ((BitVec.ofNat 32 (op + imm * 0x100)).extractLsb' 8 n).toNat = imm := by
  have arg := argField_of_word op imm hop (himm.trans_le (Nat.pow_le_pow_right (by decide) hn))
  rw [argField_eq_immediate hn] at arg
  have above : ((BitVec.ofNat 32 (op + imm * 0x100)).extractLsb' (8 + n) (24 - n)).toNat = 0 := by
    by_contra nonzero
    have := Nat.le_mul_of_pos_right (2 ^ n) (Nat.pos_of_ne_zero nonzero)
    omega
  refine ⟨BitVec.eq_of_toNat_eq (above.trans (BitVec.toNat_zero ..).symm), ?_⟩
  rwa [above, Nat.mul_zero, Nat.add_zero] at arg

/-- R102, R108: a word with no bit above its immediate is the sum of its opcode byte and its immediate. -/
theorem word_of_immediate {w : Word} {op n : Nat} (hn : n ≤ 24) (hop : (opField w).toNat = op)
    (above : w.extractLsb' (8 + n) (24 - n) = 0) :
    BitVec.ofNat 32 (op + (w.extractLsb' 8 n).toNat * 0x100) = w := by
  have aboveNat : (w.extractLsb' (8 + n) (24 - n)).toNat = 0 := by rw [above]; exact BitVec.toNat_zero ..
  have word := toNat_eq_fields w
  rw [argField_eq_immediate hn, aboveNat, Nat.mul_zero, Nat.add_zero, hop] at word
  rw [← word, BitVec.ofNat_toNat, BitVec.setWidth_eq]

/-! ## The encoder from the fields -/

/-- R101: the word of a command without an immediate is told by `OP` when `ARG` is 0. -/
theorem encode_of_argField_zero {w : Word} (i : Instr) (op : opField w = opField (encode i)) (arg : argField w = 0)
    (noArg : argField (encode i) = 0) : encode i = w :=
  eq_of_fields op.symm (noArg.trans arg.symm)

/-- R102, R108: the encoder puts `kbits` back where it was. -/
theorem encode_qrKeygen {w : Word} (op : opField w = 0x11) (rest : keygenRest w = 0) :
    encode (.qrKeygen (kbitsField w).toNat) = w :=
  word_of_immediate (n := 16) (by decide) (congrArg BitVec.toNat op) rest

/-- R102, R108: the encoder puts `k` back where it was. -/
theorem encode_qrIsprime {w : Word} (op : opField w = 0x12) (rest : isprimeRest w = 0) :
    encode (.qrIsprime (kField w).toNat) = w :=
  word_of_immediate (n := 8) (by decide) (congrArg BitVec.toNat op) rest

/-! ## Decoding an encoded command -/

/-- R101: the check of the unused bits passes exactly when they are 0. -/
theorem needZero_eq_ok {n : Nat} (rest : BitVec n) (i j : Instr) : needZero rest i = .ok j ↔ rest = 0 ∧ j = i := by
  refine ⟨fun h => ⟨?_, eq_of_needZero h⟩, ?_⟩
  · by_contra nonzero
    rw [needZero, if_neg nonzero] at h
    exact nomatch h
  · rintro ⟨rfl, rfl⟩
    exact if_pos rfl

/-- R102, R103: `OP` 0x11 is `QR.KEYGEN`. -/
theorem decode_of_op_keygen {w : Word} (op : opField w = 0x11) :
    decode .qr w = needZero (keygenRest w) (.qrKeygen (kbitsField w).toNat) := if_pos op

/-- R102, R103: `OP` 0x12 is `QR.ISPRIME`. -/
theorem decode_of_op_isprime {w : Word} (op : opField w = 0x12) :
    decode .qr w = needZero (isprimeRest w) (.qrIsprime (kField w).toNat) := by
  rw [decode, decodeQr, op]
  rfl

/-- Settles O1: a fixed word is decoded by evaluation; an immediate is read back from its field, and the bits above it are 0. -/
theorem decodeOfEncode : Obligations.DecodeOfEncode := by
  intro i fits
  cases i with
  | bcInit | bcEncb | bcDecb | bcEnc | bcDec | bcClear => decide
  | qrEnc | qrDec | qrGetn | qrGetp | qrGetq | qrClear => decide
  | qrKeygen kbits =>
    have bound : kbits < 2 ^ 16 := of_decide_eq_true fits
    have op : opField (encode (.qrKeygen kbits)) = 0x11 := Laws.EncodeMatchesRow.op_of_word 0x11 kbits
    obtain ⟨rest, field⟩ : keygenRest (encode (.qrKeygen kbits)) = 0 ∧ (kbitsField (encode (.qrKeygen kbits))).toNat = kbits :=
      immediate_of_word (by decide) (by decide) bound
    rw [Instr.unit, decode_of_op_keygen op, field]
    exact (needZero_eq_ok _ _ _).mpr ⟨rest, rfl⟩
  | qrIsprime k =>
    have bound : k < 2 ^ 8 := of_decide_eq_true fits
    have op : opField (encode (.qrIsprime k)) = 0x12 := Laws.EncodeMatchesRow.op_of_word 0x12 k
    obtain ⟨rest, field⟩ : isprimeRest (encode (.qrIsprime k)) = 0 ∧ (kField (encode (.qrIsprime k))).toNat = k :=
      immediate_of_word (by decide) (by decide) bound
    rw [Instr.unit, decode_of_op_isprime op, field]
    exact (needZero_eq_ok _ _ _).mpr ⟨rest, rfl⟩

/-! ## Encoding a decoded word -/

/-- R101, R103: what `BC.CMD` accepts is a word of the encoder. -/
theorem encode_of_decodeBc {w : Word} {i : Instr} (h : decodeBc w = .ok i) : i.wellFormed = true ∧ encode i = w := by
  unfold decodeBc at h
  split_ifs at h <;> obtain ⟨arg, rfl⟩ := (needZero_eq_ok _ _ _).mp h <;>
    exact ⟨rfl, encode_of_argField_zero _ ‹_› arg rfl⟩

/-- R101 to R103: what `QR.CMD` accepts is a word of the encoder. -/
theorem encode_of_decodeQr {w : Word} {i : Instr} (h : decodeQr w = .ok i) : i.wellFormed = true ∧ encode i = w := by
  unfold decodeQr at h
  split_ifs at h with keygen isprime <;> obtain ⟨rest, rfl⟩ := (needZero_eq_ok _ _ _).mp h
  · exact ⟨decide_eq_true (kbitsField w).isLt, encode_qrKeygen keygen rest⟩
  · exact ⟨decide_eq_true (kField w).isLt, encode_qrIsprime isprime rest⟩
  all_goals exact ⟨rfl, encode_of_argField_zero _ ‹_› rest rfl⟩

/-- Settles O2, by the decoder of each unit. -/
theorem encodeOfDecode : Obligations.EncodeOfDecode := by
  intro u w i h
  obtain ⟨fits, word⟩ : i.wellFormed = true ∧ encode i = w := by
    cases u with
    | bc => exact encode_of_decodeBc h
    | qr => exact encode_of_decodeQr h
  exact ⟨fits, unit_of_decode h, word⟩

/-! ## The opcode map -/

theorem accepts_row_iff (r : OpcodeRow) (u : UnitId) (w : Word) : r.accepts u w = true ↔ r.unit = u ∧ w &&& r.mask = r.pattern :=
  decide_eq_true_iff

/-- R103: the word of a command matches a row of its unit. -/
theorem row_of_encode (i : Instr) (fits : i.wellFormed = true) : ∃ r ∈ opcodeMap, r.accepts i.unit (encode i) = true := by
  have matched : Laws.EncodeMatchesRow.Statement i := by
    cases i with
    | bcInit => exact Laws.EncodeMatchesRow.bcInit
    | bcEncb => exact Laws.EncodeMatchesRow.bcEncb
    | bcDecb => exact Laws.EncodeMatchesRow.bcDecb
    | bcEnc => exact Laws.EncodeMatchesRow.bcEnc
    | bcDec => exact Laws.EncodeMatchesRow.bcDec
    | bcClear => exact Laws.EncodeMatchesRow.bcClear
    | qrKeygen kbits => exact Laws.EncodeMatchesRow.qrKeygen kbits
    | qrIsprime k => exact Laws.EncodeMatchesRow.qrIsprime k
    | qrEnc => exact Laws.EncodeMatchesRow.qrEnc
    | qrDec => exact Laws.EncodeMatchesRow.qrDec
    | qrGetn => exact Laws.EncodeMatchesRow.qrGetn
    | qrGetp => exact Laws.EncodeMatchesRow.qrGetp
    | qrGetq => exact Laws.EncodeMatchesRow.qrGetq
    | qrClear => exact Laws.EncodeMatchesRow.qrClear
  obtain ⟨r, row, accepted, -⟩ := matched fits
  exact ⟨r, row, accepted⟩

/-- A full mask lets one word through. -/
theorem eq_of_fullMask {w v : Word} (h : w &&& 0xFFFFFFFF = v) : v = w := h.symm.trans BitVec.and_allOnes

/-- A mask keeps the fields of a word that it covers. -/
theorem field_of_masked {w mask v : Word} (start len : Nat) (h : w &&& mask = v)
    (covers : mask.extractLsb' start len = BitVec.allOnes len) : w.extractLsb' start len = v.extractLsb' start len := by
  rw [← h, BitVec.extractLsb'_and, covers, BitVec.and_allOnes]

/-- R103: a word that matches a row of a unit is the word of a command of that unit. -/
theorem command_of_row {r : OpcodeRow} {u : UnitId} {w : Word} (row : r ∈ opcodeMap) (accepted : r.accepts u w = true) :
    ∃ i : Instr, i.wellFormed = true ∧ i.unit = u ∧ encode i = w := by
  obtain ⟨unit, word⟩ := (accepts_row_iff r u w).mp accepted
  simp only [opcodeMap, List.cons_append, List.nil_append, List.mem_cons, List.not_mem_nil, or_false] at row
  rcases row with rfl | rfl | rfl | rfl | rfl | rfl | rfl | rfl | rfl | rfl | rfl | rfl | rfl | rfl
  · exact ⟨.bcInit, rfl, unit, eq_of_fullMask word⟩
  · exact ⟨.bcEncb, rfl, unit, eq_of_fullMask word⟩
  · exact ⟨.bcDecb, rfl, unit, eq_of_fullMask word⟩
  · exact ⟨.bcEnc, rfl, unit, eq_of_fullMask word⟩
  · exact ⟨.bcDec, rfl, unit, eq_of_fullMask word⟩
  · exact ⟨.bcClear, rfl, unit, eq_of_fullMask word⟩
  · exact ⟨.qrKeygen (kbitsField w).toNat, decide_eq_true (kbitsField w).isLt, unit,
      encode_qrKeygen (field_of_masked 0 8 word rfl) (field_of_masked 24 8 word rfl)⟩
  · exact ⟨.qrIsprime (kField w).toNat, decide_eq_true (kField w).isLt, unit,
      encode_qrIsprime (field_of_masked 0 8 word rfl) (field_of_masked 16 16 word rfl)⟩
  · exact ⟨.qrEnc, rfl, unit, eq_of_fullMask word⟩
  · exact ⟨.qrDec, rfl, unit, eq_of_fullMask word⟩
  · exact ⟨.qrGetn, rfl, unit, eq_of_fullMask word⟩
  · exact ⟨.qrGetp, rfl, unit, eq_of_fullMask word⟩
  · exact ⟨.qrGetq, rfl, unit, eq_of_fullMask word⟩
  · exact ⟨.qrClear, rfl, unit, eq_of_fullMask word⟩

/-- R103: the decoder accepts a word exactly when a row of the unit matches it. -/
theorem decode_ok_iff_row (u : UnitId) (w : Word) : (∃ i, decode u w = .ok i) ↔ ∃ r ∈ opcodeMap, r.accepts u w = true := by
  constructor
  · rintro ⟨i, h⟩
    obtain ⟨fits, rfl, rfl⟩ := encodeOfDecode u w i h
    exact row_of_encode i fits
  · rintro ⟨r, row, accepted⟩
    obtain ⟨i, fits, rfl, rfl⟩ := command_of_row row accepted
    exact ⟨i, decodeOfEncode i fits⟩

/-- Settles O3: the accepted words and the matched words are both the words of the encoder. -/
theorem decodeAcceptsOpcodeMap : Obligations.DecodeAcceptsOpcodeMap := ⟨decode_ok_iff_row, by decide⟩

/-- Settles O4: the legal words are those of the encoder; the illegal ones are decoded by evaluation. -/
theorem sampleWordsDecode : Obligations.SampleWordsDecode :=
  ⟨⟨decodeOfEncode .bcInit rfl, decodeOfEncode .bcEncb rfl, decodeOfEncode .bcDecb rfl, decodeOfEncode .bcEnc rfl,
      decodeOfEncode .bcDec rfl, decodeOfEncode .bcClear rfl⟩,
    ⟨decodeOfEncode .qrEnc rfl, decodeOfEncode .qrDec rfl, decodeOfEncode .qrGetn rfl, decodeOfEncode .qrGetp rfl,
      decodeOfEncode .qrGetq rfl, decodeOfEncode .qrClear rfl⟩,
    ⟨decodeOfEncode (.qrKeygen 0) rfl, decodeOfEncode (.qrKeygen 512) rfl, decodeOfEncode (.qrKeygen 65535) rfl,
      decodeOfEncode (.qrIsprime 0) rfl, decodeOfEncode (.qrIsprime 5) rfl, decodeOfEncode (.qrIsprime 255) rfl⟩,
    by decide⟩

end Sys2Proof.Machine
end

section
/-! SUPPORT. From the word in `CMD` to the end of its command: the start step, a placed word, an illegal word, and the result of
`QR.ISPRIME` (R104 to R106, R213, R267). -/

namespace Sys2Proof.Machine

/-! ## The start step -/

/-- R104: a write to `CMD` of an idle unit starts it. -/
theorem hostWrite_cmd_of_idle {s : State} {u : UnitId} (idle : (s.shell u).busy = false) (w : Word) :
    s.hostWrite u 0x00 32 w = (s.start u w).answer .written := by
  have effect : s.writeRegister u (some .cmd) w = s.start u w := if_neg (by simp [idle])
  exact (hostWrite_register s u .cmd w).trans (by rw [effect])

/-- R310: a write to `CMD` of a busy unit is ignored. -/
theorem hostWrite_cmd_of_busy {s : State} {u : UnitId} (busy : (s.shell u).busy = true) (w : Word) :
    s.hostWrite u 0x00 32 w = s.answer .written := by
  have effect : s.writeRegister u (some .cmd) w = s := if_pos busy
  exact (hostWrite_register s u .cmd w).trans (by rw [effect])

/-- R270: `irq` is low while a unit has just been started. -/
theorem irq_start (s : State) (u : UnitId) (w : Word) : (s.start u w).irq u = false := by
  rw [State.irq, shell_start_self, start_done, Bool.and_false]

/-- Settles O7: the host's turn is its write, which starts an idle unit and is ignored by a busy one. -/
theorem startStep : Obligations.StartStep := by
  intro s u w rest turn script
  refine ⟨_, step_write turn rfl script, ?_⟩
  cases busy : (s.shell u).busy with
  | false =>
    rw [hostWrite_cmd_of_idle (s := { s with script := rest }) busy]
    exact ⟨start_script _ u w, congrArg (Reply.written :: ·) (start_replies _ u w), start_bcKey _ u w, start_qrKey _ u w,
      start_resets _ u w, start_entropy _ u w, start_params _ u w, fun v other => shell_start_other _ u v w other,
      fun _ => ⟨shell_start_self _ u w, irq_start _ u w⟩, nofun⟩
  | true =>
    rw [hostWrite_cmd_of_busy (s := { s with script := rest }) busy]
    exact ⟨rfl, rfl, rfl, rfl, rfl, rfl, rfl, fun v _ => by cases v <;> rfl, nofun, fun _ => ⟨rfl, rfl⟩⟩

/-! ## A placed word -/

/-- The command of a table word is what the word's unit decodes. -/
theorem decodeTableWord_eq_some {nbits w : Nat} {i : Instr} (h : decodeTableWord nbits w = some i) :
    ∃ word, tableWord nbits w = some word ∧ decode (homeUnit word) word = .ok i := by
  unfold decodeTableWord at h
  split at h
  · exact nomatch h
  · rename_i word placed
    refine ⟨word, placed, ?_⟩
    split at h
    · rename_i decoded
      exact decoded.trans (congrArg _ (Option.some.inj h))
    · exact nomatch h

theorem withFetchWord_of_tableWord {nbits w : Nat} {word : Word} (s : State) (h : tableWord nbits w = some word) :
    s.withFetchWord nbits w = { s.start (homeUnit word) word with schedule := .unit (homeUnit word) :: s.schedule } := by
  rw [State.withFetchWord, State.placeWord, h]

/-- Settles O6: the placed word is latched in its unit, which is busy and has the turn. -/
theorem placedWordRuns : Obligations.PlacedWordRuns := by
  intro s t nbits w i decoded run
  obtain ⟨word, placed, dec⟩ := decodeTableWord_eq_some decoded
  rw [withFetchWord_of_tableWord s placed] at run ⊢
  have latched := shell_start_self s (homeUnit word) word
  exact stepRunsLatchedCommand.1 _ t (homeUnit word) i rfl (congrArg Shell.busy latched)
    ((congrArg (decode _) (congrArg Shell.cmdlatch latched)).trans dec) run

/-! ## An illegal word -/

/-- Settles O8: a word that no row matches does not decode, and its unit takes the fault branch. -/
theorem illegalWordFaults : Obligations.IllegalWordFaults := by
  intro s u busy unmatched
  cases dec : decode u (s.shell u).cmdlatch with
  | ok i => exact absurd ((decode_ok_iff_row u _).mp ⟨i, dec⟩) unmatched
  | error e => exact ⟨_, completeUnit_of_decode_error s u e busy dec, failed_finishIllegal s u⟩

/-! ## `QR.ISPRIME` -/

/-- R213: a number that fits the buffer is tested, with the test's draws. -/
theorem isprimeRule_of_fits (k : Nat) {s : State} (fits : s.qr.shell.ilen.toNat ≤ s.params.qrBuf) :
    isprimeRule k s =
      (.ok (s.qr.key, [if (isProbablyPrime (os2ip (s.operand .qr)) (baseCount k) s.entropy).1 then 0x01 else 0x00]),
        (isProbablyPrime (os2ip (s.operand .qr)) (baseCount k) s.entropy).2) :=
  if_neg (Nat.not_lt.mpr fits)

/-- Settles O42: the command's rule succeeds with the key it found. -/
theorem qrIsprimeResult : Obligations.QrIsprimeResult := by
  intro s k fits kk r
  refine ⟨_, exec_qrIsprime k s, ?_⟩
  rw [isprimeRule_of_fits k fits]
  exact ⟨completed_finishQr s r.2 (s.qr.key, [if r.1 then 0x01 else 0x00]), rfl, rfl⟩

end Sys2Proof.Machine
end

section
/-! SUPPORT. The block cipher: the F-function by the bytes of its word, the rounds as a recurrence, and that decryption is encryption
with the subkeys reversed, and undoes it (R130 to R134). -/

namespace Sys2Proof.Machine

/-! ## The F-function -/

/-- R131: the bytes of the word, most significant first, are the indices. -/
theorem feistelF_beWord (S : Vector (Vector Word 256) 4) (a b c d : Byte) :
    feistelF S (beWord a b c d) =
      add32 (add32 (S[0][a.toNat]'a.isLt) (S[1][b.toNat]'b.isLt) ^^^ (S[2][c.toNat]'c.isLt)) (S[3][d.toNat]'d.isLt) := by
  have bytes := bytes32_beWord a b c d
  simp only [bytes32, List.cons.injEq, and_true] at bytes
  obtain ⟨ha, hb, hc, hd⟩ := bytes
  simp only [feistelF, ha, hb, hc, hd]

/-- R130: `add32` is addition modulo 2^32. -/
theorem add32_toNat (x y : Word) : (add32 x y).toNat = (x.toNat + y.toNat) % 2 ^ 32 := BitVec.toNat_add x y

/-- R131 by value. -/
theorem feistelF_toNat (S : Vector (Vector Word 256) 4) (x : Word) (a b c d : Fin 256)
    (hx : x.toNat = a.val * 2 ^ 24 + b.val * 2 ^ 16 + c.val * 2 ^ 8 + d.val) :
    (feistelF S x).toNat =
      ((((S[0][a].toNat + S[1][b].toNat) % 2 ^ 32) ^^^ S[2][c].toNat) + S[3][d].toNat) % 2 ^ 32 := by
  have word : x = beWord (.ofFin a) (.ofFin b) (.ofFin c) (.ofFin d) :=
    BitVec.eq_of_toNat_eq (hx.trans (beWord_toNat _ _ _ _).symm)
  rw [word, feistelF_beWord, add32_toNat, BitVec.toNat_xor, add32_toNat]
  rfl

/-! ## The rounds as a recurrence -/

/-- R132: the halves before and after each round, as the closed form names them. -/
def RoundRun (P : Vector Word 18) (S : Vector (Vector Word 256) 4) (L R : Nat → Word) : Prop :=
  ∀ i : Fin 16, R (i.val + 1) = L i.val ^^^ P[i.val]'(by omega) ∧
    L (i.val + 1) = R i.val ^^^ feistelF S (L i.val ^^^ P[i.val]'(by omega))

/-- Sequences in which each pair is one round from the pair before hold the result of all the rounds. -/
theorem foldl_feistelRound_eq (S : Vector (Vector Word 256) 4) (ks : List Word) (L R : Nat → Word)
    (run : ∀ i (h : i < ks.length), (L (i + 1), R (i + 1)) = feistelRound S (L i, R i) ks[i]) :
    ks.foldl (feistelRound S) (L 0, R 0) = (L ks.length, R ks.length) := by
  induction ks generalizing L R with
  | nil => rfl
  | cons k ks ih =>
    have first : (L 1, R 1) = feistelRound S (L 0, R 0) k := run 0 (Nat.zero_lt_succ _)
    rw [List.foldl_cons, ← first]
    exact ih (fun i => L (i + 1)) (fun i => R (i + 1)) fun i h => run (i + 1) (Nat.succ_lt_succ h)

@[simp] theorem encryptKeys_length (P : Vector Word 18) : (encryptKeys P).length = 16 := by
  simp [encryptKeys, Config.rounds]

@[simp] theorem encryptKeys_getElem (P : Vector Word 18) (i : Nat) (h : i < (encryptKeys P).length) :
    (encryptKeys P)[i] = P[i]'(by rw [encryptKeys_length] at h; omega) := by
  simp [encryptKeys]

/-- R132: the closed form of `EncryptBlock`. -/
theorem encryptBlock_of_roundRun {P : Vector Word 18} {S : Vector (Vector Word 256) 4} {L R : Nat → Word}
    (run : RoundRun P S L R) : encryptBlock P S (L 0) (R 0) = (R 16 ^^^ P[17], L 16 ^^^ P[16]) := by
  have rounds : (encryptKeys P).foldl (feistelRound S) (L 0, R 0) = (L 16, R 16) := by
    rw [foldl_feistelRound_eq S (encryptKeys P) L R, encryptKeys_length]
    intro i h
    have hi : i < 16 := by rwa [encryptKeys_length] at h
    obtain ⟨hR, hL⟩ := run ⟨i, hi⟩
    rw [encryptKeys_getElem]
    exact Prod.ext hL hR
  rw [encryptBlock, feistelRounds, rounds]
  rfl

/-- Settles O21: F on a word made of four bytes, and induction on the rounds. -/
theorem encryptBlockClosedForm : Obligations.EncryptBlockClosedForm :=
  ⟨feistelF_toNat, fun _ _ _ _ run => encryptBlock_of_roundRun run⟩

/-! ## Encryption undone -/

/-- The halves after `i` rounds of an encryption. -/
def roundState (P : Vector Word 18) (S : Vector (Vector Word 256) 4) (l r : Word) (i : Nat) : Word × Word :=
  ((encryptKeys P).take i).foldl (feistelRound S) (l, r)

/-- Every block starts a run. -/
theorem exists_roundRun (P : Vector Word 18) (S : Vector (Vector Word 256) 4) (l r : Word) :
    ∃ L R, L 0 = l ∧ R 0 = r ∧ RoundRun P S L R := by
  refine ⟨fun i => (roundState P S l r i).1, fun i => (roundState P S l r i).2, rfl, rfl, fun i => ?_⟩
  have hi : i.val < (encryptKeys P).length := by rw [encryptKeys_length]; exact i.isLt
  have next : roundState P S l r (i.val + 1) = feistelRound S (roundState P S l r i.val) (P[i.val]'(by omega)) := by
    rw [roundState, List.take_add_one, List.getElem?_eq_getElem hi, List.foldl_append, encryptKeys_getElem]
    rfl
  exact ⟨congrArg Prod.snd next, congrArg Prod.fst next⟩

/-- R133: decryption is encryption with the subkeys reversed. -/
theorem decryptBlock_eq_encryptBlock_reverse (P : Vector Word 18) (S : Vector (Vector Word 256) 4) :
    decryptBlock P S = encryptBlock P.reverse S := by
  have keys : decryptKeys P = encryptKeys P.reverse := by
    simp [decryptKeys, encryptKeys]
  funext l r
  simp [decryptBlock, encryptBlock, keys]

/-- What is XORed in twice cancels, whatever is XORed in between. -/
theorem xor_cancel_around (r f p : Word) : r ^^^ f ^^^ p ^^^ f = r ^^^ p := by
  rw [BitVec.xor_assoc r f p, BitVec.xor_comm f p, ← BitVec.xor_assoc, BitVec.xor_assoc, BitVec.xor_self, BitVec.xor_zero]

/-- The halves of a run, each under the subkey that whitens it, taken backwards, are a run with the subkeys reversed: what a round
XORed into a half, the round back XORs out again. -/
theorem RoundRun.reverse {P : Vector Word 18} {S : Vector (Vector Word 256) 4} {L R : Nat → Word} (run : RoundRun P S L R) :
    RoundRun P.reverse S (fun j => R (16 - j) ^^^ P[17 - j]) (fun j => L (16 - j) ^^^ P[16 - j]) := by
  intro j
  obtain ⟨hR, hL⟩ := run ⟨15 - j.val, by omega⟩
  have now : 16 - j.val = 15 - j.val + 1 := by omega
  have next : 16 - (j.val + 1) = 15 - j.val := by omega
  have mid : 17 - (j.val + 1) = 15 - j.val + 1 := by omega
  have whitened : R (16 - j.val) ^^^ P[17 - j.val] ^^^ P.reverse[j.val] = L (15 - j.val) ^^^ P[15 - j.val] := by
    rw [Vector.getElem_reverse, BitVec.xor_assoc, BitVec.xor_self, BitVec.xor_zero, now, hR]
  refine ⟨?_, ?_⟩
  · simp only [whitened, next]
  · rw [whitened]
    simp only [next, mid, now, hL, xor_cancel_around]

/-- The run backwards ends at the block the run started from. -/
theorem RoundRun.encryptBlock_reverse {P : Vector Word 18} {S : Vector (Vector Word 256) 4} {L R : Nat → Word}
    (run : RoundRun P S L R) : encryptBlock P.reverse S (R 16 ^^^ P[17]) (L 16 ^^^ P[16]) = (L 0, R 0) := by
  have back := encryptBlock_of_roundRun run.reverse
  simpa [BitVec.xor_assoc] using back

/-- R134: decryption undoes encryption. -/
theorem decryptBlock_encryptBlock (P : Vector Word 18) (S : Vector (Vector Word 256) 4) (l r : Word) :
    decryptBlock P S (encryptBlock P S l r).1 (encryptBlock P S l r).2 = (l, r) := by
  obtain ⟨L, R, rfl, rfl, run⟩ := exists_roundRun P S l r
  rw [decryptBlock_eq_encryptBlock_reverse, encryptBlock_of_roundRun run]
  exact run.encryptBlock_reverse

/-- R134: encryption undoes decryption, which is encryption with the subkeys reversed. -/
theorem encryptBlock_decryptBlock (P : Vector Word 18) (S : Vector (Vector Word 256) 4) (l r : Word) :
    encryptBlock P S (decryptBlock P S l r).1 (decryptBlock P S l r).2 = (l, r) := by
  have undone := decryptBlock_encryptBlock P.reverse S l r
  rwa [decryptBlock_eq_encryptBlock_reverse, Vector.reverse_reverse, ← decryptBlock_eq_encryptBlock_reverse] at undone

/-- Settles O20: a function with an inverse on both sides is a bijection. -/
theorem blockInverse : Obligations.BlockInverse := by
  intro P S
  have dec_enc : Function.LeftInverse (fun x : Word × Word => decryptBlock P S x.1 x.2) (fun x => encryptBlock P S x.1 x.2) :=
    fun x => decryptBlock_encryptBlock P S x.1 x.2
  have enc_dec : Function.LeftInverse (fun x : Word × Word => encryptBlock P S x.1 x.2) (fun x => decryptBlock P S x.1 x.2) :=
    fun x => encryptBlock_decryptBlock P S x.1 x.2
  exact ⟨decryptBlock_encryptBlock P S, encryptBlock_decryptBlock P S, Function.bijective_iff_has_inverse.mpr ⟨_, dec_enc, enc_dec⟩,
    Function.bijective_iff_has_inverse.mpr ⟨_, enc_dec, dec_enc⟩⟩

end Sys2Proof.Machine
end

section
/-! SUPPORT. The key schedule: the words of a key that `KeyXor` takes, the 521 block encryptions one by one, and what of a key its
schedule depends on; the two `CLEAR`s (R150, R151, R154, R155, R219). -/

namespace Sys2Proof.Machine

/-! ## The key's words -/

/-- R150: the chunk of a subkey by value. -/
theorem keyChunk_eq_ofNat (key : List Byte) (i : Nat) :
    keyChunk key i = BitVec.ofNat 32 ((keyByte key (4 * i)).toNat * 2 ^ 24 + (keyByte key (4 * i + 1)).toNat * 2 ^ 16 +
      (keyByte key (4 * i + 2)).toNat * 2 ^ 8 + (keyByte key (4 * i + 3)).toNat) := by
  rw [← beWord_toNat, BitVec.ofNat_toNat, BitVec.setWidth_eq, keyChunk]

@[simp] theorem keyXor_getElem (P : Vector Word 18) (key : List Byte) (i : Nat) (h : i < 18) :
    (keyXor P key)[i] = P[i] ^^^ keyChunk key i := Vector.getElem_ofFn h

/-- R154: the 18 chunks are cyclic bytes 0 to 71. -/
theorem keyXor_congr {k₁ k₂ : List Byte} (bytes : ∀ j, j < 72 → keyByte k₁ j = keyByte k₂ j) (P : Vector Word 18) :
    keyXor P k₁ = keyXor P k₂ := by
  ext1 i h
  rw [keyXor_getElem, keyXor_getElem, keyChunk, keyChunk, bytes (4 * i) (by omega), bytes (4 * i + 1) (by omega),
    bytes (4 * i + 2) (by omega), bytes (4 * i + 3) (by omega)]

/-- A key and its repetition have the same cyclic bytes: an index into the second copy is the index into the first, less the
length. -/
theorem keyByte_append_self {k : List Byte} (nonempty : k ≠ []) (j : Nat) : keyByte (k ++ k) j = keyByte k j := by
  have pos := List.length_pos_of_ne_nil nonempty
  have inside : j % (k ++ k).length < k.length + k.length := by
    rw [List.length_append]
    exact Nat.mod_lt j (by omega)
  have cyclic : j % (k ++ k).length % k.length = j % k.length :=
    Nat.mod_mod_of_dvd j (by rw [List.length_append]; exact ⟨2, by omega⟩)
  unfold keyByte
  rw [← cyclic]
  rcases Nat.lt_or_ge (j % (k ++ k).length) k.length with first | second
  · rw [List.getD_append _ _ _ _ first, Nat.mod_eq_of_lt first]
  · have copy : j % (k ++ k).length - k.length < k.length := by omega
    rw [List.getD_append_right _ _ _ _ second, Nat.mod_eq_sub_mod second, Nat.mod_eq_of_lt copy]

/-- R154: a long key and its first `n` bytes have the same bytes below `n`. -/
theorem keyByte_take {k : List Byte} {n j : Nat} (hj : j < n) (long : n ≤ k.length) : keyByte (k.take n) j = keyByte k j := by
  have len : (k.take n).length = n := List.length_take_of_le long
  rw [keyByte, keyByte, len, Nat.mod_eq_of_lt hj, Nat.mod_eq_of_lt (Nat.lt_of_lt_of_le hj long), List.getD_eq_getElem?_getD,
    List.getD_eq_getElem?_getD, List.getElem?_take_of_lt hj]

/-- R154: a schedule depends on cyclic bytes 0 to 71 of its key. -/
theorem keySchedule_congr (p : Params) {k₁ k₂ : List Byte} (bytes : ∀ j, j < 72 → keyByte k₁ j = keyByte k₂ j) :
    keySchedule p k₁ = keySchedule p k₂ := by
  rw [keySchedule, keySchedule, keyScheduleFrom, keyScheduleFrom, keyXor_congr bytes]

/-! ## One block encryption of the schedule -/

/-- R151: what encryption `j` of the schedule does to its state: it encrypts the pair and overwrites slots `2j` and `2j + 1`, where
the subkeys are slots 0 to 17 and the tables follow with 256 slots each. -/
structure Schedule.Fills (j : Nat) (st st' : Schedule) : Prop where
  pair : (st'.l, st'.r) = encryptBlock st.P st.S st.l st.r
  subkeys : ∀ i (h : i < 18), st'.P[i] = if i = 2 * j then st'.l else if i = 2 * j + 1 then st'.r else st.P[i]
  tables : ∀ t (ht : t < 4) i (hi : i < 256), st'.S[t][i] =
    if 18 + 256 * t + i = 2 * j then st'.l else if 18 + 256 * t + i = 2 * j + 1 then st'.r else st.S[t][i]

/-- A pair of neighbouring entries overwritten. -/
theorem getElem_set_pair {n : Nat} (v : Vector Word n) (a b : Word) {m k : Nat} (h : m + 1 < n) (hk : k < n) :
    ((v.set m a (by omega)).set (m + 1) b h)[k] = if k = m then a else if k = m + 1 then b else v[k] := by
  by_cases odd : k = m + 1
  · subst odd
    rw [Vector.getElem_set_self, if_neg (by omega), if_pos rfl]
  · rw [Vector.getElem_set_ne _ _ (Ne.symm odd), Vector.getElem_set, if_neg odd]
    simp only [eq_comm]

/-- R151: encryption `i` of the first nine fills the subkeys. -/
theorem subkeyStep_fills (st : Schedule) (i : Fin 9) : st.Fills i.val (st.subkeyStep i) where
  pair := rfl
  subkeys _ h := getElem_set_pair st.P _ _ (by omega) h
  tables t _ k _ := by
    rw [if_neg (by omega), if_neg (by omega)]
    rfl

/-- R151: encryption `i` of the 128 for table `t` fills that table. -/
theorem tableStep_fills (st : Schedule) (t : Fin 4) (i : Fin 128) :
    st.Fills (9 + 128 * t.val + i.val) (Schedule.tableStep t st i) where
  pair := rfl
  subkeys k _ := by
    rw [if_neg (by omega), if_neg (by omega)]
    rfl
  tables u hu k hk := by
    by_cases same : t.val = u
    · subst same
      have even : 18 + 256 * t.val + k = 2 * (9 + 128 * t.val + i.val) ↔ k = 2 * i.val := by omega
      have odd : 18 + 256 * t.val + k = 2 * (9 + 128 * t.val + i.val) + 1 ↔ k = 2 * i.val + 1 := by omega
      simp only [even, odd, Schedule.tableStep, Vector.getElem_set_self]
      exact getElem_set_pair _ _ _ _ hk
    · rw [if_neg (by omega), if_neg (by omega)]
      simp only [Schedule.tableStep, Vector.getElem_set_ne _ hu same]

/-! ## The run -/

/-- Encryption `j` of the schedule: 0 to 8 for the subkeys, then 128 for each table. -/
def scheduleStep (j : Nat) (st : Schedule) : Schedule :=
  if h : j < 9 then st.subkeyStep ⟨j, h⟩
  else Schedule.tableStep (.ofNat 4 ((j - 9) / 128)) st (.ofNat 128 ((j - 9) % 128))

theorem scheduleStep_subkey (st : Schedule) (i : Fin 9) : scheduleStep i.val st = st.subkeyStep i := dif_pos i.isLt

theorem scheduleStep_table (st : Schedule) (t : Fin 4) (i : Fin 128) :
    scheduleStep (9 + 128 * t.val + i.val) st = Schedule.tableStep t st i := by
  have table : Fin.ofNat 4 ((9 + 128 * t.val + i.val - 9) / 128) = t := Fin.ext (by rw [Fin.val_ofNat]; omega)
  have entry : Fin.ofNat 128 ((9 + 128 * t.val + i.val - 9) % 128) = i := Fin.ext (by rw [Fin.val_ofNat]; omega)
  rw [scheduleStep, dif_neg (by omega), table, entry]

theorem scheduleStep_fills (st : Schedule) {j : Nat} (h : j < 521) : st.Fills j (scheduleStep j st) := by
  rcases Nat.lt_or_ge j 9 with subkey | table
  · exact scheduleStep_subkey st ⟨j, subkey⟩ ▸ subkeyStep_fills st ⟨j, subkey⟩
  · obtain ⟨t, i, rfl⟩ : ∃ (t : Fin 4) (i : Fin 128), j = 9 + 128 * t.val + i.val :=
      ⟨⟨(j - 9) / 128, by omega⟩, ⟨(j - 9) % 128, by omega⟩, by dsimp only; omega⟩
    rw [scheduleStep_table]
    exact tableStep_fills st t i

/-- The state of the schedule of a key after `j` encryptions (R151). -/
def scheduleState (p : Params) (key : List Byte) : Nat → Schedule
  | 0 => { P := keyXor p.subkeys key, S := p.tables, l := 0, r := 0 }
  | j + 1 => scheduleStep j (scheduleState p key j)

/-- The states of a schedule are a run. -/
theorem scheduleState_run (p : Params) (key : List Byte) :
    ScheduleRun p key (fun j => (scheduleState p key j).P) (fun j => (scheduleState p key j).S)
      (fun j => (scheduleState p key j).l) (fun j => (scheduleState p key j).r) where
  subkeysFirst := rfl
  tablesFirst := rfl
  pairFirst := ⟨rfl, rfl⟩
  pair _ h := (scheduleStep_fills _ h).pair
  subkeys _ h := (scheduleStep_fills _ h).subkeys
  tables _ h := (scheduleStep_fills _ h).tables

/-- A sequence in which each entry is one step from the entry before holds the result of all the steps. -/
theorem foldl_finRange_eq {α : Type} {n : Nat} (f : α → Fin n → α) (X : Nat → α)
    (chain : ∀ i : Fin n, X (i.val + 1) = f (X i.val) i) : (List.finRange n).foldl f (X 0) = X n := by
  induction n with
  | zero => rfl
  | succ n ih =>
    rw [List.finRange_succ_last, List.foldl_append, List.foldl_map, ih (fun x i => f x i.castSucc) fun i => chain i.castSucc]
    exact (chain (Fin.last n)).symm

/-- The encryptions for the subkeys are encryptions 0 to 8. -/
theorem foldl_subkeyStep (p : Params) (key : List Byte) :
    (List.finRange 9).foldl Schedule.subkeyStep (scheduleState p key 0) = scheduleState p key 9 :=
  foldl_finRange_eq _ _ fun i => scheduleStep_subkey _ i

/-- The encryptions for a table take up where those for the table before end. -/
theorem foldl_tableStep (p : Params) (key : List Byte) (t : Fin 4) :
    (List.finRange 128).foldl (Schedule.tableStep t) (scheduleState p key (9 + 128 * t.val)) =
      scheduleState p key (9 + 128 * (t.val + 1)) :=
  foldl_finRange_eq _ (fun i => scheduleState p key (9 + 128 * t.val + i)) fun i => scheduleStep_table _ t i

/-- R151: `KeySchedule` is the key material after 521 encryptions. -/
theorem keySchedule_eq_scheduleState (p : Params) (key : List Byte) :
    keySchedule p key = { P := (scheduleState p key 521).P, S := (scheduleState p key 521).S } := by
  have tables : (List.finRange 4).foldl (fun st t => (List.finRange 128).foldl (Schedule.tableStep t) st)
      (scheduleState p key 9) = scheduleState p key 521 :=
    foldl_finRange_eq _ (fun t => scheduleState p key (9 + 128 * t)) fun t => (foldl_tableStep p key t).symm
  rw [← tables, ← foldl_subkeyStep]
  rfl

/-! ## The results -/

/-- R60: the subkeys and the tables of a configuration are its words in order. -/
theorem constants_toList (p : Params) :
    p.subkeys.toList = p.piP.words ∧ ∀ t : Fin 4, p.tables[t].toList = p.piS[t].words := by
  refine ⟨rfl, fun t => ?_⟩
  have table : p.tables[t] = p.piS[t].toVector := Vector.getElem_ofFn t.isLt
  rw [table]
  rfl

/-- Settles O23: the schedule is the end of the run of its states, and the key enters it through the 18 chunks alone. -/
theorem keyScheduleValue : Obligations.KeyScheduleValue := by
  refine ⟨fun P key i h _ => ?_, constants_toList, fun p key => ?_, fun p _ _ => keySchedule_congr p, fun p k nonempty => ?_,
    fun p k long => ?_⟩
  · exact (keyXor_getElem P key i h).trans (congrArg _ (keyChunk_eq_ofNat key i))
  · exact ⟨_, _, _, _, scheduleState_run p key, keySchedule_eq_scheduleState p key⟩
  · exact keySchedule_congr p fun j _ => keyByte_append_self nonempty j
  · exact keySchedule_congr p fun j hj => keyByte_take hj long

/-- Settles O30: the rule of a `CLEAR` always succeeds, with no key and no bytes. -/
theorem clearResult : Obligations.ClearResult := fun s =>
  ⟨⟨_, exec_bcClear s, rfl, rfl, completed_finishBc s (none, []), finishBc_entropy s _⟩,
    ⟨_, exec_qrClear s, rfl, rfl, completed_finishQr s s.entropy (none, []), rfl⟩⟩

end Sys2Proof.Machine
end

section
/-! SUPPORT. The messages of `BC`: what `Unpad` takes and that it undoes `Pad`, that the blocks of a decryption undo those of an
encryption, and the faults that depend on the data of a command (R170, R171, R174, R175, R241, R245). -/

namespace Sys2Proof.Machine

/-! ## Padding -/

/-- R171: the check of `Unpad`, with `n` the last byte. -/
theorem unpad_eq_ok {x out : List Byte} {n : Nat} (last : (x.getLastD 0).toNat = n) :
    unpad x = .ok out ↔ (1 ≤ n ∧ n ≤ 8) ∧ (∀ v ∈ x.drop (x.length - n), v.toNat = n) ∧ x.take (x.length - n) = out := by
  unfold unpad
  dsimp only
  rw [last]
  split_ifs with range padding
  · exact iff_of_false nofun fun ⟨_, _⟩ => by omega
  · rw [List.all_eq_true] at padding
    have bytes : ∀ v ∈ x.drop (x.length - n), v.toNat = n := fun v hv => beq_iff_eq.mp (padding v hv)
    have inRange : 1 ≤ n ∧ n ≤ 8 := by omega
    simp only [Except.ok.injEq, inRange, and_self, true_and, and_iff_right bytes]
  · refine iff_of_false nofun fun ⟨_, bytes, _⟩ => padding ?_
    exact List.all_eq_true.mpr fun v hv => beq_iff_eq.mpr (bytes v hv)

/-- R171: the one fault of `Unpad`. -/
theorem unpad_eq_error {x : List Byte} {e : CmdFault} (h : unpad x = .error e) : e = .invalidPadding := by
  unfold unpad at h
  dsimp only at h
  split_ifs at h <;> exact (Except.error.inj h).symm

theorem unpad_of_never_ok {x : List Byte} (h : ∀ out, unpad x ≠ .ok out) : unpad x = .error .invalidPadding := by
  cases result : unpad x with
  | ok out => exact absurd result (h out)
  | error e => rw [unpad_eq_error result]

theorem toNat_padByte {n : Nat} (high : n ≤ 8) : (BitVec.ofNat 8 n).toNat = n := by
  rw [BitVec.toNat_ofNat]
  omega

/-- R171: `Unpad` removes a well-formed padding. -/
theorem unpad_append_padding (out : List Byte) {n : Nat} (low : 1 ≤ n) (high : n ≤ 8) :
    unpad (out ++ List.replicate n (BitVec.ofNat 8 n)) = .ok out := by
  have last : ((out ++ List.replicate n (BitVec.ofNat 8 n)).getLastD 0).toNat = n := by
    rw [List.getLastD_eq_getLast?, List.getLast?_append, List.getLast?_replicate, if_neg (by omega)]
    exact toNat_padByte high
  have kept : (out ++ List.replicate n (BitVec.ofNat 8 n)).length - n = out.length := by simp
  rw [unpad_eq_ok last, kept, List.drop_left, List.take_left]
  refine ⟨⟨low, high⟩, fun v hv => ?_, rfl⟩
  rw [List.eq_of_mem_replicate hv, toNat_padByte high]

/-- R171: of 8 bytes or more, `Unpad` takes those that end in a well-formed padding. -/
theorem unpad_eq_ok_iff_padding {x : List Byte} (long : 8 ≤ x.length) (out : List Byte) :
    unpad x = .ok out ↔ ∃ n, 1 ≤ n ∧ n ≤ 8 ∧ x = out ++ List.replicate n (BitVec.ofNat 8 n) := by
  constructor
  · intro h
    obtain ⟨⟨low, high⟩, bytes, rfl⟩ := (unpad_eq_ok rfl).mp h
    set n := (x.getLastD 0).toNat
    have padding : x.drop (x.length - n) = List.replicate n (BitVec.ofNat 8 n) := by
      refine List.eq_replicate_iff.mpr ⟨by rw [List.length_drop]; omega, fun v hv => ?_⟩
      exact BitVec.eq_of_toNat_eq ((bytes v hv).trans (toNat_padByte high).symm)
    exact ⟨n, low, high, by rw [← padding, List.take_append_drop]⟩
  · rintro ⟨n, low, high, rfl⟩
    exact unpad_append_padding out low high

/-- R170: a message is padded with 1 to 8 bytes that hold their number. -/
theorem pad_eq_append (m : List Byte) : ∃ n, 1 ≤ n ∧ n ≤ 8 ∧ pad m = m ++ List.replicate n (BitVec.ofNat 8 n) :=
  ⟨8 - m.length % 8, by omega, by omega, rfl⟩

/-- R171: `Unpad` undoes `Pad`. -/
theorem unpad_pad (m : List Byte) : unpad (pad m) = .ok m := by
  obtain ⟨n, low, high, padded⟩ := pad_eq_append m
  rw [padded, unpad_append_padding m low high]

/-- Settles O25: `Unpad` takes the sequences that end in a well-formed padding, and `Pad` makes one. -/
theorem padUnpad : Obligations.PadUnpad := by
  refine ⟨fun m => ⟨pad_length m, unpad_pad m, pad_eq_append m⟩, fun x nonempty whole => ?_⟩
  have long : 8 ≤ x.length := by
    have := List.length_pos_iff.mpr nonempty
    omega
  exact ⟨unpad_eq_ok_iff_padding long, fun _ => unpad_ok_length, unpad_of_never_ok⟩

/-! ## Decryption of an encrypted message -/

/-- R9: a word is made of its bytes. -/
theorem beWord_extractLsb' (w : Word) :
    beWord (w.extractLsb' 24 8) (w.extractLsb' 16 8) (w.extractLsb' 8 8) (w.extractLsb' 0 8) = w := by
  apply BitVec.eq_of_toNat_eq
  simp only [beWord_toNat, BitVec.extractLsb'_toNat, Nat.shiftRight_eq_div_pow]
  have := w.isLt
  omega

/-- R76: the first block of a byte sequence, by the two words it was made of. -/
theorem mapBlocks_blockBytes_append (f : Word → Word → Word × Word) (lr : Word × Word) (rest : List Byte) :
    mapBlocks f (blockBytes lr ++ rest) = blockBytes (f lr.1 lr.2) ++ mapBlocks f rest := by
  rw [blockBytes, bytes32, bytes32]
  simp only [List.cons_append, List.nil_append, mapBlocks, beWord_extractLsb']

/-- R134, R173: block functions that undo each other do so on whole blocks. -/
theorem mapBlocks_mapBlocks {f g : Word → Word → Word × Word} (undo : ∀ l r, g (f l r).1 (f l r).2 = (l, r)) (x : List Byte)
    (whole : x.length % 8 = 0) : mapBlocks g (mapBlocks f x) = x := by
  induction x using mapBlocks.induct with
  | case1 a b c d e p q r rest ih =>
    have wholeRest : rest.length % 8 = 0 := by
      simp only [List.length_cons] at whole
      omega
    rw [mapBlocks, mapBlocks_blockBytes_append, undo, ih wholeRest, blockBytes_beWord]
    rfl
  | case2 x short =>
    have empty : mapBlocks f x = [] := mapBlocks.eq_2 _ _ short
    have length := mapBlocks_length f x
    rw [empty, List.length_nil] at length
    obtain rfl : x = [] := List.eq_nil_of_length_eq_zero (by omega)
    rfl

/-- R175: what `BC.DEC` makes of what `BC.ENC` made of a message. -/
theorem unpad_decrypt_encrypt_pad (k : BcKey) (m : List Byte) :
    unpad (mapBlocks (decryptBlock k.P k.S) (mapBlocks (encryptBlock k.P k.S) (pad m))) = .ok m := by
  have whole : (pad m).length % 8 = 0 := by
    rw [pad_length]
    omega
  rw [mapBlocks_mapBlocks (decryptBlock_encryptBlock k.P k.S) (pad m) whole, unpad_pad]

/-- R74, R75: the result of a command, copied to `IBUF` with its length, is the operand of the next one. -/
theorem operand_of_copied_result {s t s' : State} {u : UnitId} {out : List Byte} (completed : Completed s t u out)
    (fits : out.length < 2 ^ 32) (ilen : (s'.shell u).ilen = (t.shell u).olen)
    (bytes : ∀ i, i < (t.shell u).olen.toNat → s'.bufByte u .ibuf i = t.bufByte u .obuf i) : s'.operand u = out := by
  have length : (t.shell u).olen.toNat = out.length := olen_toNat_of_lt completed.olen fits
  refine List.ext_getElem? fun i => ?_
  by_cases inside : i < out.length
  · rw [operand_getElem? s' u (by rw [ilen, length]; exact inside), bytes i (by rw [length]; exact inside),
      completed.obuf, List.getD_eq_getElem _ _ inside, List.getElem?_eq_getElem inside]
  · rw [List.getElem?_eq_none (by rw [operand_length, ilen, length]; omega), List.getElem?_eq_none (by omega)]

/-- R75: the bytes of a result that was the operand of another state. -/
theorem Completed.obuf_of_operand {s t s' : State} {u : UnitId} (completed : Completed s t u (s'.operand u)) {i : Nat}
    (inside : i < (s'.shell u).ilen.toNat) : t.bufByte u .obuf i = s'.bufByte u .ibuf i := by
  rw [completed.obuf, List.getD_eq_getElem?_getD, operand_getElem? s' u inside, Option.getD_some]

/-- R33: the length of a result that was the operand of another state. -/
theorem Completed.olen_of_operand {s t s' : State} {u : UnitId} (completed : Completed s t u (s'.operand u)) :
    (t.shell u).olen = (s'.shell u).ilen := by
  rw [completed.olen, operand_length, BitVec.ofNat_toNat, BitVec.setWidth_eq]

/-- R175, from a keyed unit on: `BC.DEC` of the result of `BC.ENC`. -/
theorem bcDec_of_bcEnc_result {s t s' : State} {k : BcKey} (legal : s.params.legal) (params : s'.params = s.params)
    (keyed : s'.bc.key = some k) (fits : s.bc.shell.ilen.toNat ≤ s.params.bcBuf - 1)
    (completed : Completed s t .bc (mapBlocks (encryptBlock k.P k.S) (pad (s.operand .bc))))
    (ilen : s'.bc.shell.ilen = t.bc.shell.olen)
    (bytes : ∀ i, i < t.bc.shell.olen.toNat → s'.bufByte .bc .ibuf i = t.bufByte .bc .obuf i) :
    ∃ t', exec .bcDec s' = .next t' ∧ Completed s' t' .bc (s.operand .bc) := by
  have length := mapBlocks_pad_operand_length (encryptBlock k.P k.S) s .bc
  have below := Params.bcBuf_lt legal
  obtain ⟨⟨whole, low, -⟩, -⟩ := legal
  have operand := operand_of_copied_result completed (by rw [length, shell_bc]; omega) ilen bytes
  have ilenNat : s'.bc.shell.ilen.toNat = 8 * ((s.bc.shell.ilen.toNat + 8) / 8) := by
    rw [← shell_bc, ← operand_length, operand, length, shell_bc]
  have nonempty : s'.bc.shell.ilen ≠ 0 := by
    intro zero
    rw [zero] at ilenNat
    simp at ilenNat
  have unpadded : unpad (mapBlocks (decryptBlock k.P k.S) (s'.operand .bc)) = .ok (s.operand .bc) := by
    rw [operand, unpad_decrypt_encrypt_pad]
  obtain ⟨t', run, completed', -⟩ := bcDecResult s' k (s.operand .bc) keyed nonempty (by omega) (by rw [params]; omega) unpadded
  exact ⟨t', run, completed'⟩

/-- Settles O29, by the results of the three commands. -/
theorem bcMessageRoundTrip : Obligations.BcMessageRoundTrip := by
  intro s₁ legal unkeyed nonempty fits₁
  obtain ⟨t₁, run₁, key₁, -, completed₁, -⟩ := bcInitResult s₁ unkeyed nonempty fits₁
  refine ⟨t₁, run₁, completed₁.err, fun s₂ params₂ key₂ fits₂ => ?_⟩
  rw [← params₂] at legal fits₂
  obtain ⟨t₂, run₂, completed₂, keyed₂, -⟩ := bcEncResult s₂ _ legal (key₂.trans key₁) fits₂
  refine ⟨t₂, run₂, completed₂.err, fun s₃ params₃ key₃ ilen bytes => ?_⟩
  obtain ⟨t₃, run₃, completed₃⟩ :=
    bcDec_of_bcEnc_result legal (params₃.trans params₂.symm) (key₃.trans keyed₂) fits₂ completed₂ ilen bytes
  exact ⟨t₃, run₃, completed₃.err, completed₃.olen_of_operand, fun _ => completed₃.obuf_of_operand⟩

/-! ## The faults that depend on the data -/

/-- R105: a `BC` command whose rule gives a fault takes the fault branch. -/
theorem exec_of_bcRule_error {i : Instr} {s : State} {e : CmdFault} (hu : i.unit = .bc) (rule : bcRule i s = .error e) :
    ∃ t, exec i s = .next t ∧ Failed s t .bc e :=
  ⟨s.finishBc (.error e), by rw [exec_eq_bcRule hu, rule], failed_finishBc s e⟩

/-- R174: `BC.DEC` with an operand of legal length gives the fault that unpadding gives. -/
theorem bcDecRule_of_unpad_error {s : State} {k : BcKey} {e : CmdFault} (keyed : s.bc.key = some k)
    (nonempty : s.bc.shell.ilen ≠ 0) (whole : s.bc.shell.ilen.toNat % 8 = 0) (fits : s.bc.shell.ilen.toNat ≤ s.params.bcBuf)
    (malformed : unpad (mapBlocks k.decrypt (s.operand .bc)) = .error e) : bcDecRule s = .error e := by
  have accepted : ¬ (s.bc.shell.ilen = 0 ∨ s.bc.shell.ilen.toNat % 8 ≠ 0 ∨ s.params.bcBuf < s.bc.shell.ilen.toNat) := by
    rintro (h | h | h)
    · exact nonempty h
    · exact h whole
    · omega
  simp only [bcDecRule, keyed, if_neg accepted, malformed]

/-- R241: `QR.ENC` of a message whose encoding is not below `n`. -/
theorem qrEncRule_of_tooLarge {s : State} {k : QrKey} (keyed : s.qr.key = some k)
    (fits : s.qr.shell.ilen.toNat ≤ s.params.qrBuf) (large : k.n ≤ encodeMessage (s.operand .qr)) :
    qrEncRule s = .error .messageTooLarge := by
  simp only [qrEncRule, keyed, if_neg (Nat.not_lt.mpr fits), if_pos large]

/-- R245: `QR.DEC` with no acceptable candidate. -/
theorem qrDecRule_of_no_message {s : State} {k : QrKey} (keyed : s.qr.key = some k)
    (fits : s.qr.shell.ilen.toNat ≤ s.params.qrBuf)
    (nothing : firstMessage s.params.qrZeroLen (roots k.p k.q (os2ip (s.operand .qr))) = none) :
    qrDecRule s = .error .decryptionAmbiguous := by
  simp only [qrDecRule, keyed, if_neg (Nat.not_lt.mpr fits), nothing]

/-- R245: a candidate is passed over if it has no two bytes or its first byte is not the checksum of the others. -/
theorem checkCandidate_eq_false_iff (b : List Byte) :
    checkCandidate b = false ↔ b.length < 2 ∨ ∃ d rest, b = d :: rest ∧ d ≠ sum8 rest := by
  match b with
  | [] => exact iff_of_true rfl (.inl (by decide))
  | [_] => exact iff_of_true rfl (.inl (by simp))
  | c :: v :: msg => simp [checkCandidate, List.length_cons]

/-- R245: the scan finds nothing if no candidate is acceptable. -/
theorem firstMessage_eq_none {z : Nat} {rs : List Nat} (h : ∀ r ∈ rs, checkCandidate (i2osp z r) = false) :
    firstMessage z rs = none := by
  have passed : (rs.map (i2osp z)).find? checkCandidate = none := by
    rw [List.find?_eq_none]
    intro b hb
    obtain ⟨r, hr, rfl⟩ := List.mem_map.mp hb
    exact Bool.eq_false_iff.mp (h r hr)
  rw [firstMessage, passed]
  rfl

/-- Settles O56: past the checks of key state and length, the rule of each command gives its fault. -/
theorem dataFaults : Obligations.DataFaults := by
  refine ⟨fun s k keyed nonempty whole fits malformed => ?_, fun s k keyed fits large => ?_, fun s k keyed fits passed => ?_⟩
  · have long : 8 ≤ (mapBlocks k.decrypt (s.operand .bc)).length := by
      have : s.bc.shell.ilen.toNat ≠ 0 := fun zero => nonempty (BitVec.eq_of_toNat_eq zero)
      rw [mapBlocks_length, operand_length, shell_bc]
      omega
    have fault := unpad_of_never_ok fun out unpadded =>
      have ⟨n, low, high, padded⟩ := (unpad_eq_ok_iff_padding long out).mp unpadded
      malformed out n low high padded
    exact exec_of_bcRule_error rfl (bcDecRule_of_unpad_error keyed nonempty whole fits fault)
  · exact ⟨_, exec_qrEnc s, by rw [qrEncRule_of_tooLarge keyed fits large]; exact failed_finishQr s _⟩
  · have nothing := firstMessage_eq_none fun r hr => (checkCandidate_eq_false_iff _).mpr (passed r hr)
    exact ⟨_, exec_qrDec s, by rw [qrDecRule_of_no_message keyed fits nothing]; exact failed_finishQr s _⟩

end Sys2Proof.Machine
end

section
/-! SUPPORT. The arithmetic of the `QR` commands: modular exponentiation, the extended Euclidean algorithm, that the coefficients it
gives are not observable in the roots, and the result of `QR.ENC` (R194, R195, R198, R241, R244). -/

namespace Sys2Proof.Machine

/-! ## Modular exponentiation -/

theorem modExpLoop_of_zero (fuel b m acc : Nat) : modExpLoop fuel b 0 m acc = acc := by
  cases fuel with
  | zero => rfl
  | succ fuel => exact if_pos rfl

theorem modExpLoop_of_ne_zero (fuel b m acc : Nat) {e : Nat} (h : e ≠ 0) :
    modExpLoop (fuel + 1) b e m acc = modExpLoop fuel (b * b % m) (e / 2) m (if e % 2 = 1 then acc * b % m else acc) :=
  if_neg h

/-- One step of square and multiply keeps `acc * b^e` modulo m. -/
theorem squareMultiply_modEq (b e m acc : Nat) :
    (if e % 2 = 1 then acc * b % m else acc) * (b * b % m) ^ (e / 2) ≡ acc * b ^ e [MOD m] := by
  have squares : (b * b % m) ^ (e / 2) ≡ (b * b) ^ (e / 2) [MOD m] := (Nat.mod_modEq _ m).pow _
  have halves : (b * b) ^ (e / 2) = b ^ (2 * (e / 2)) := by rw [Nat.pow_mul, Nat.pow_two]
  rw [halves] at squares
  split_ifs with odd
  · calc acc * b % m * (b * b % m) ^ (e / 2)
        ≡ acc * b * b ^ (2 * (e / 2)) [MOD m] := (Nat.mod_modEq _ m).mul squares
      _ = acc * b ^ (2 * (e / 2) + 1) := by ring
      _ = acc * b ^ e := by rw [show 2 * (e / 2) + 1 = e by omega]
  · rw [show 2 * (e / 2) = e by omega] at squares
    exact squares.mul_left acc

theorem modExpLoop_eq {fuel b e m acc : Nat} (enough : e < 2 ^ fuel) (reduced : acc < m) :
    modExpLoop fuel b e m acc = acc * b ^ e % m := by
  induction fuel generalizing b e acc with
  | zero =>
    obtain rfl : e = 0 := by omega
    rw [modExpLoop_of_zero, Nat.pow_zero, Nat.mul_one, Nat.mod_eq_of_lt reduced]
  | succ fuel ih =>
    by_cases zero : e = 0
    · subst zero
      rw [modExpLoop_of_zero, Nat.pow_zero, Nat.mul_one, Nat.mod_eq_of_lt reduced]
    · have half : e / 2 < 2 ^ fuel := by omega
      have next : (if e % 2 = 1 then acc * b % m else acc) < m := by
        split_ifs
        · exact Nat.mod_lt _ (by omega)
        · exact reduced
      rw [modExpLoop_of_ne_zero fuel b m acc zero, ih half next]
      exact squareMultiply_modEq b e m acc

/-- R194: `ModExp` is the power modulo m. -/
theorem modExp_eq (b e : Nat) {m : Nat} (h : 1 ≤ m) : modExp b e m = b ^ e % m := by
  rw [modExp, modExpLoop_eq (lt_two_pow_bitlen e) (Nat.mod_lt 1 h)]
  calc 1 % m * (b % m) ^ e
      ≡ 1 * b ^ e [MOD m] := (Nat.mod_modEq 1 m).mul ((Nat.mod_modEq b m).pow e)
    _ = b ^ e := Nat.one_mul _

/-- Settles O34. -/
theorem modExpValue : Obligations.ModExpValue := fun b e m h =>
  ⟨modExp_eq b e h, by rw [modExp_eq b e h]; exact Nat.mod_lt _ h⟩

/-! ## The extended Euclidean algorithm -/

theorem egcdLoop_of_zero (fuel b : Nat) : egcdLoop fuel 0 b = (b, 0, 1) := by
  cases fuel with
  | zero => rfl
  | succ fuel => exact if_pos rfl

theorem egcdLoop_of_ne_zero (fuel b : Nat) {a : Nat} (h : a ≠ 0) :
    egcdLoop (fuel + 1) a b =
      ((egcdLoop fuel (b % a) a).1, (egcdLoop fuel (b % a) a).2.2 - (b / a : Nat) * (egcdLoop fuel (b % a) a).2.1,
        (egcdLoop fuel (b % a) a).2.1) :=
  if_neg h

/-- The first argument falls at each call, so any two bounds on the calls that are not below it give the same. -/
theorem egcdLoop_congr {f g a b : Nat} (hf : a ≤ f) (hg : a ≤ g) : egcdLoop f a b = egcdLoop g a b := by
  induction f generalizing g a b with
  | zero =>
    obtain rfl : a = 0 := by omega
    rw [egcdLoop_of_zero, egcdLoop_of_zero]
  | succ f ih =>
    by_cases zero : a = 0
    · rw [zero, egcdLoop_of_zero, egcdLoop_of_zero]
    · obtain ⟨g, rfl⟩ : ∃ g', g = g' + 1 := ⟨g - 1, by omega⟩
      have falls : b % a < a := Nat.mod_lt b (by omega)
      have rest : egcdLoop f (b % a) a = egcdLoop g (b % a) a := ih (by omega) (by omega)
      rw [egcdLoop_of_ne_zero f b zero, egcdLoop_of_ne_zero g b zero, rest]

/-- R195: the end of the recursion. -/
theorem egcd_zero (b : Nat) : egcd 0 b = (b, 0, 1) := egcdLoop_of_zero 1 b

/-- R195: the recursion. -/
theorem egcd_of_ne_zero {a : Nat} (b : Nat) (h : a ≠ 0) :
    egcd a b = ((egcd (b % a) a).1, (egcd (b % a) a).2.2 - (b / a : Nat) * (egcd (b % a) a).2.1, (egcd (b % a) a).2.1) := by
  have falls : b % a < a := Nat.mod_lt b (Nat.pos_of_ne_zero h)
  have rest : egcdLoop a (b % a) a = egcd (b % a) a := egcdLoop_congr falls.le (Nat.le_succ _)
  rw [egcd, egcdLoop_of_ne_zero a b h, rest]

/-- R195: the result is the greatest common divisor with a Bézout pair, by Euclid's recursion. -/
theorem egcd_bezout (a b : Nat) :
    (egcd a b).1 = Nat.gcd a b ∧ (a : Int) * (egcd a b).2.1 + b * (egcd a b).2.2 = (Nat.gcd a b : Nat) := by
  induction a, b using Nat.gcd.induction with
  | H0 b => simp [egcd_zero]
  | H1 a b pos ih =>
    obtain ⟨divisor, pair⟩ := ih
    have division : (b : Int) = (b % a : Nat) + a * (b / a : Nat) := by exact_mod_cast (Nat.mod_add_div b a).symm
    rw [egcd_of_ne_zero b pos.ne', Nat.gcd_rec a b]
    refine ⟨divisor, ?_⟩
    rw [← pair]
    linear_combination (egcd (b % a) a).2.1 * division

/-- Settles O35. -/
theorem egcdBezout : Obligations.EgcdBezout := ⟨egcd_zero, fun _ b h => egcd_of_ne_zero b h, egcd_bezout⟩

/-! ## The coefficients of the roots -/

/-- R198: modulo `p*q`, `yp*p` is the residue that is 0 modulo p and 1 modulo q. -/
theorem modEq_bezout_iff {p q yp yq : Int} (bezout : yp * p + yq * q = 1) (x : Int) :
    x ≡ yp * p [ZMOD p * q] ↔ x ≡ 0 [ZMOD p] ∧ x ≡ 1 [ZMOD q] := by
  have coprime : IsCoprime p q := ⟨yp, yq, bezout⟩
  have zero : yp * p ≡ 0 [ZMOD p] := Int.modEq_zero_iff_dvd.mpr (dvd_mul_left p yp)
  have one : yp * p ≡ 1 [ZMOD q] := Int.modEq_iff_dvd.mpr ⟨yq, by linear_combination -bezout⟩
  rw [← Int.modEq_and_modEq_iff_modEq_mul (Int.isCoprime_iff_gcd_eq_one.mp coprime)]
  exact ⟨fun ⟨hp, hq⟩ => ⟨hp.trans zero, hq.trans one⟩, fun ⟨hp, hq⟩ => ⟨hp.trans zero.symm, hq.trans one.symm⟩⟩

/-- R198: `yp*p` modulo `p*q` is the same for every Bézout pair. -/
theorem bezout_modEq {p q yp yq zp zq : Int} (hy : yp * p + yq * q = 1) (hz : zp * p + zq * q = 1) :
    yp * p ≡ zp * p [ZMOD p * q] :=
  (modEq_bezout_iff hz _).mpr ((modEq_bezout_iff hy _).mp rfl)

/-- R198: the products that `u` and `v` reduce are the same modulo `p*q` for every Bézout pair. -/
theorem bezout_mul_emod_eq {p q yp yq zp zq : Int} (hy : yp * p + yq * q = 1) (hz : zp * p + zq * q = 1) (m : Int) :
    yp * p * m % (p * q) = zp * p * m % (p * q) :=
  (bezout_modEq hy hz).mul_right m

/-- R198: among 0 ≤ x < `p*q` the residue `yp*p` is the one that is 0 modulo p and 1 modulo q. -/
theorem emod_eq_bezout_iff {p q yp yq x : Int} (bezout : yp * p + yq * q = 1) (low : 0 ≤ x) (high : x < p * q) :
    (x % p = 0 ∧ x % q = 1 % q) ↔ x = yp * p % (p * q) := by
  have reduced : x % (p * q) = x := Int.emod_eq_of_lt low high
  have residues := modEq_bezout_iff bezout x
  rw [Int.ModEq, Int.ModEq, Int.ModEq, Int.zero_emod, reduced] at residues
  exact residues.symm

/-- R195: of coprime numbers `EGCD` gives a Bézout pair of 1. -/
theorem egcd_bezout_one {p q : Nat} {yp yq : Int} (bezout : yp * p + yq * q = 1) :
    (egcd p q).2.1 * p + (egcd p q).2.2 * q = 1 := by
  have coprime : Nat.gcd p q = 1 := Nat.isCoprime_iff_coprime.mp ⟨yp, yq, bezout⟩
  have pair := (egcd_bezout p q).2
  rw [coprime] at pair
  rw [mul_comm, mul_comm (egcd p q).2.2]
  exact_mod_cast pair

section
variable {p q : Nat} (hp : 0 < p) (hq : 0 < q)
include hp hq

theorem natCast_mul_ne_zero : ((p * q : Nat) : Int) ≠ 0 := by exact_mod_cast (Nat.mul_pos hp hq).ne'

/-- R198, R244: `u` from any Bézout pair. -/
theorem rootU_of_bezout {yp yq : Int} (bezout : yp * p + yq * q = 1) (c : Nat) :
    (rootU p q c : Int) = (yp * p * modExp c ((q + 1) / 4) q) % ((p * q : Nat) : Int) := by
  rw [rootU, Int.toNat_of_nonneg (Int.emod_nonneg _ (natCast_mul_ne_zero hp hq)), Nat.cast_mul]
  exact bezout_mul_emod_eq (egcd_bezout_one bezout) bezout _

/-- R198, R244: `v` from any Bézout pair. -/
theorem rootV_of_bezout {yp yq : Int} (bezout : yp * p + yq * q = 1) (c : Nat) :
    (rootV p q c : Int) = (yq * q * modExp c ((p + 1) / 4) p) % ((p * q : Nat) : Int) := by
  rw [rootV, Int.toNat_of_nonneg (Int.emod_nonneg _ (natCast_mul_ne_zero hp hq)), Nat.cast_mul, mul_comm (p : Int)]
  exact bezout_mul_emod_eq ((add_comm _ _).trans (egcd_bezout_one bezout)) ((add_comm _ _).trans bezout) _

/-- R244: the four candidates as integers modulo n, from `u` and `v`. -/
theorem roots_eq_toNat (c : Nat) :
    let n : Int := ((p * q : Nat) : Int)
    let r1 : Int := ((rootU p q c : Int) + rootV p q c) % n
    let r2 : Int := ((rootU p q c : Int) - rootV p q c) % n
    roots p q c = [r1.toNat, r2.toNat, (n - r1).toNat, (n - r2).toNat] := by
  intro n r1 r2
  have cast1 : r1 = (root1 p q c : Int) := by rw [root1, Int.natCast_mod, Nat.cast_add]
  have cast2 : r2 = (root2 p q c : Int) :=
    (Int.toNat_of_nonneg (Int.emod_nonneg _ (natCast_mul_ne_zero hp hq))).symm
  rw [cast1, cast2, Int.toNat_natCast, Int.toNat_natCast, Int.toNat_sub, Int.toNat_sub, roots]

end

/-- Settles O36: `EGCD` gives one Bézout pair, and `yp*p` and `yq*q` are determined modulo n by the residues that define them. -/
theorem bezoutPairUnobservable : Obligations.BezoutPairUnobservable := by
  intro p q yp yq hp hq bezout n
  have swapped : yq * q + yp * p = 1 := (add_comm _ _).trans bezout
  have n_eq : n = (p : Int) * q := Nat.cast_mul p q
  have n_eq_swapped : n = (q : Int) * p := n_eq.trans (mul_comm _ _)
  refine ⟨?_, fun zp zq mp mq other => ⟨?_, ?_⟩, fun x low high => ?_, fun x low high => ?_⟩
  · intro c u v r1 r2
    have hu : (rootU p q c : Int) = u := rootU_of_bezout hp hq bezout c
    have hv : (rootV p q c : Int) = v := rootV_of_bezout hp hq bezout c
    refine ⟨by rw [← hu, Int.toNat_natCast], by rw [← hv, Int.toNat_natCast], ?_⟩
    have candidates := roots_eq_toNat hp hq c
    rw [hu, hv] at candidates
    exact candidates
  · rw [n_eq]
    exact bezout_mul_emod_eq bezout other mq
  · rw [n_eq_swapped]
    exact bezout_mul_emod_eq swapped ((add_comm _ _).trans other) mp
  · rw [n_eq] at high ⊢
    exact emod_eq_bezout_iff bezout low high
  · rw [n_eq_swapped] at high ⊢
    exact and_comm.trans (emod_eq_bezout_iff swapped low high)

/-! ## `QR.ENC` -/

/-- R105: a `QR` command that draws nothing and whose rule succeeds completes with the rule's key and bytes. -/
theorem finishQr_of_rule_ok {s : State} {rule : CmdResult QrKey} {key : Option QrKey} {out : List Byte}
    (ok : rule = .ok (key, out)) :
    Completed s (s.finishQr rule) .qr out ∧ (s.finishQr rule).qr.key = key ∧ (s.finishQr rule).entropy = s.entropy := by
  subst ok
  exact ⟨completed_finishQr s s.entropy (key, out), rfl, rfl⟩

/-- Settles O48: under the conditions of R241 the rule succeeds. -/
theorem qrEncResult : Obligations.QrEncResult := by
  intro s k keyed fits below
  exact ⟨_, exec_qrEnc s, finishQr_of_rule_ok ((qrEncRule_eq_ok s _).mpr ⟨k, keyed, fits, below, rfl⟩)⟩

end Sys2Proof.Machine
end

section
/-! SUPPORT. The primality test: the decomposition of `n - 1`, when a base passes, the draws of a run of bases, and why a prime passes
for every choice of bases (R210 to R212). -/

namespace Sys2Proof.Machine

/-! ## Decomposition -/

/-- Halving keeps `d * 2^r`, and as many halvings as `d` has bits end with an odd number. -/
theorem decomposeLoop_spec {fuel d r : Nat} (pos : 0 < d) (enough : d < 2 ^ fuel) :
    d * 2 ^ r = (decomposeLoop fuel d r).1 * 2 ^ (decomposeLoop fuel d r).2 ∧ (decomposeLoop fuel d r).1 % 2 = 1 := by
  induction fuel generalizing d r with
  | zero => omega
  | succ fuel ih =>
    unfold decomposeLoop
    split_ifs with even
    · have halved : d / 2 * 2 ^ (r + 1) = d * 2 ^ r := by
        calc d / 2 * 2 ^ (r + 1) = 2 * (d / 2) * 2 ^ r := by ring
          _ = d * 2 ^ r := by rw [show 2 * (d / 2) = d by omega]
      rw [← halved]
      exact ih (by omega) (by omega)
    · exact ⟨rfl, by omega⟩

/-- R210: the product and the odd factor of `Decompose`. -/
theorem decompose_spec {n : Nat} (h : 2 ≤ n) :
    n - 1 = (decompose n).1 * 2 ^ (decompose n).2 ∧ (decompose n).1 % 2 = 1 := by
  have below : n - 1 < 2 ^ bitlen n := lt_of_le_of_lt (Nat.sub_le n 1) (lt_two_pow_bitlen n)
  have spec := decomposeLoop_spec (r := 0) (show 0 < n - 1 by omega) below
  rwa [Nat.pow_zero, Nat.mul_one] at spec

/-- An odd number times a power of two determines both, by halving both sides. -/
theorem odd_mul_two_pow_inj {d d' r r' : Nat} (odd : d % 2 = 1) (odd' : d' % 2 = 1) (h : d * 2 ^ r = d' * 2 ^ r') :
    d = d' ∧ r = r' := by
  induction r generalizing r' with
  | zero =>
    cases r' with
    | zero => exact ⟨by simpa using h, rfl⟩
    | succ r' =>
      rw [Nat.pow_zero, Nat.mul_one, Nat.pow_succ, ← Nat.mul_assoc] at h
      omega
  | succ r ih =>
    cases r' with
    | zero =>
      rw [Nat.pow_zero, Nat.mul_one, Nat.pow_succ, ← Nat.mul_assoc] at h
      omega
    | succ r' =>
      rw [Nat.pow_succ, Nat.pow_succ, ← Nat.mul_assoc, ← Nat.mul_assoc] at h
      obtain ⟨factor, exponent⟩ := ih (Nat.eq_of_mul_eq_mul_right (by decide) h)
      exact ⟨factor, congrArg (· + 1) exponent⟩

/-- R210: `Decompose(n)` is the only pair with an odd factor. -/
theorem decompose_eq_iff {n : Nat} (h : 2 ≤ n) (d r : Nat) : (n - 1 = d * 2 ^ r ∧ d % 2 = 1) ↔ (d, r) = decompose n := by
  obtain ⟨product, odd⟩ := decompose_spec h
  constructor
  · rintro ⟨product', odd'⟩
    obtain ⟨factor, exponent⟩ := odd_mul_two_pow_inj odd' odd (product'.symm.trans product)
    exact Prod.ext factor exponent
  · intro pair
    rw [← pair] at product odd
    exact ⟨product, odd⟩

/-- R210: for odd n the exponent is positive, because n - 1 is even and the factor is odd. -/
theorem decompose_exponent_pos {n : Nat} (h : 3 ≤ n) (odd : n % 2 = 1) : 1 ≤ (decompose n).2 := by
  obtain ⟨product, oddFactor⟩ := decompose_spec (by omega : 2 ≤ n)
  by_contra zero
  rw [Nat.lt_one_iff.mp (Nat.not_le.mp zero), Nat.pow_zero, Nat.mul_one] at product
  omega

/-- Settles O38: the decomposition is unique, and for n that is 3 modulo 4 one halving ends it. -/
theorem decomposeUnique : Obligations.DecomposeUnique := by
  intro n low odd
  refine ⟨decompose_eq_iff (by omega), decompose_exponent_pos low odd, fun form => ?_⟩
  exact ((decompose_eq_iff (by omega) ((n - 1) / 2) 1).mp (by omega)).symm

/-! ## When a base passes -/

/-- R211: the squarings meet n - 1 exactly when one of the powers of `x` is n - 1 modulo n. -/
theorem squareLoop_eq_true_iff (count n x : Nat) :
    squareLoop count n x = true ↔ ∃ j, j < count ∧ x ^ 2 ^ (j + 1) % n = n - 1 := by
  induction count generalizing x with
  | zero => simp [squareLoop]
  | succ count ih =>
    have first : x * x % n = x ^ 2 ^ (0 + 1) % n := by rw [Nat.zero_add, Nat.pow_one, Nat.pow_two]
    have later (j : Nat) : (x * x % n) ^ 2 ^ (j + 1) % n = x ^ 2 ^ (j + 1 + 1) % n := by
      rw [← Nat.pow_mod, ← Nat.pow_two, ← Nat.pow_mul, ← Nat.pow_succ']
    rw [Nat.exists_lt_succ_left, ← first]
    unfold squareLoop
    split_ifs with found
    · exact iff_of_true rfl (.inl found)
    · rw [ih, or_iff_right found]
      simp only [later]

/-- R211: the two comparisons of `a^d`, then the `r - 1` squarings. -/
theorem basePasses_eq_true_iff {n r : Nat} (d a : Nat) (hn : 1 ≤ n) (hr : 1 ≤ r) :
    basePasses n d r a = true ↔ a ^ d % n = 1 ∨ ∃ j, j < r ∧ a ^ (d * 2 ^ j) % n = n - 1 := by
  obtain ⟨count, rfl⟩ : ∃ count, r = count + 1 := ⟨r - 1, by omega⟩
  have later (j : Nat) : (a ^ d % n) ^ 2 ^ (j + 1) % n = a ^ (d * 2 ^ (j + 1)) % n := by
    rw [← Nat.pow_mod, ← Nat.pow_mul]
  rw [Nat.exists_lt_succ_left, Nat.pow_zero, Nat.mul_one, ← or_assoc, basePasses, modExp_eq a d hn, Nat.add_sub_cancel]
  split_ifs with early
  · exact iff_of_true rfl (.inl early)
  · rw [squareLoop_eq_true_iff, or_iff_right early]
    simp only [later]

/-- Settles O39. -/
theorem basePassesMeaning : Obligations.BasePassesMeaning := fun _ d _ a hn hr =>
  basePasses_eq_true_iff d a (le_trans (by decide) hn) hr

/-! ## A run of bases -/

section
variable {n d r : Nat}

/-- R212: a run whose first `j` bases pass goes on with the draws that follow. -/
theorem testBases_add {j k : Nat} {e : Entropy}
    (passes : ∀ i, i < j → basePasses n d r ((e.after i).draw 2 (n - 2)).1 = true) :
    testBases n d r (j + k) e = testBases n d r k (e.after j) := by
  induction j generalizing e with
  | zero => rw [Nat.zero_add]; rfl
  | succ j ih =>
    have next : (e.draw 2 (n - 2)).2 = e.after 1 := Entropy.advance_eq_after e
    have rest : testBases n d r (j + k) (e.after 1) = testBases n d r k ((e.after 1).after j) := by
      refine ih fun i hi => ?_
      rw [Entropy.after_add, Nat.add_comm]
      exact passes (i + 1) (by omega)
    have now : basePasses n d r (e.draw 2 (n - 2)).1 = true := passes 0 (Nat.succ_pos j)
    rw [show j + 1 + k = j + k + 1 by omega, testBases, if_pos now, next, rest, Entropy.after_add, Nat.add_comm 1 j]

/-- R212: a run in which every base passes uses up one draw for each. -/
theorem testBases_of_passing {k : Nat} {e : Entropy}
    (passes : ∀ i, i < k → basePasses n d r ((e.after i).draw 2 (n - 2)).1 = true) :
    testBases n d r k e = (true, e.after k) :=
  testBases_add (k := 0) passes

/-- R212: a run stops at its first failing base. -/
theorem testBases_of_failing {j k : Nat} {e : Entropy} (hj : j < k)
    (passes : ∀ i, i < j → basePasses n d r ((e.after i).draw 2 (n - 2)).1 = true)
    (fails : basePasses n d r ((e.after j).draw 2 (n - 2)).1 = false) :
    testBases n d r k e = (false, e.after (j + 1)) := by
  obtain ⟨more, rfl⟩ : ∃ more, k = j + (more + 1) := ⟨k - j - 1, by omega⟩
  have next : ((e.after j).draw 2 (n - 2)).2 = e.after (j + 1) := by
    rw [Entropy.draw, Entropy.advance_eq_after, Entropy.after_add]
  rw [testBases_add passes, testBases, if_neg (Bool.not_eq_true _ ▸ fails), next]

end

/-- R212: an odd number of at least 5 is put to the bases. -/
theorem isProbablyPrime_of_odd {n : Nat} (k : Nat) (e : Entropy) (hn : 4 ≤ n) (odd : n % 2 = 1) :
    isProbablyPrime n k e = testBases n (decompose n).1 (decompose n).2 k e := by
  rw [isProbablyPrime, if_neg (by omega), if_neg (by omega), if_neg (by omega)]

/-- R212: 2 and 3 pass without a draw. -/
theorem isProbablyPrime_of_two_or_three {n : Nat} (k : Nat) (e : Entropy) (h : n = 2 ∨ n = 3) :
    isProbablyPrime n k e = (true, e) := by
  rw [isProbablyPrime, if_neg (by omega), if_pos (by omega)]

/-- R12, R212: a drawn base is legal. -/
theorem drawnBase_legal {n : Nat} (e : Entropy) (hn : 4 ≤ n) : 2 ≤ (e.draw 2 (n - 2)).1 ∧ (e.draw 2 (n - 2)).1 ≤ n - 2 :=
  inRange_mem 2 (n - 2) e.answer (by omega)

theorem GoodBase.passes {n a : Nat} (h : GoodBase n a) : basePasses n (decompose n).1 (decompose n).2 a = true :=
  have ⟨_, _, passes⟩ := h
  passes

theorem BadBase.fails {n a : Nat} (h : BadBase n a) : basePasses n (decompose n).1 (decompose n).2 a = false :=
  have ⟨_, _, fails⟩ := h
  fails

/-- A legal base passes or does not. -/
theorem goodBase_or_badBase {n a : Nat} (legal : 2 ≤ a ∧ a ≤ n - 2) : GoodBase n a ∨ BadBase n a := by
  obtain ⟨low, high⟩ := legal
  cases passes : basePasses n (decompose n).1 (decompose n).2 a with
  | true => exact .inl ⟨low, high, passes⟩
  | false => exact .inr ⟨low, high, passes⟩

/-- Settles O40: the checks before the first draw, then the run of bases up to its end or its first failing base. -/
theorem millerRabinDraws : Obligations.MillerRabinDraws := by
  intro n k e
  refine ⟨fun small => ?_, isProbablyPrime_of_two_or_three k e, fun low even => ?_, fun low odd => ?_⟩
  · rw [isProbablyPrime, if_pos small]
  · rw [isProbablyPrime, if_neg (by omega), if_neg (by omega), if_pos even]
  · intro base
    rw [isProbablyPrime_of_odd k e (by omega) odd]
    refine ⟨fun good => ?_, fun j hj good bad => ?_, fun j => goodBase_or_badBase (drawnBase_legal _ (by omega))⟩
    · exact testBases_of_passing fun i hi => (good i hi).passes
    · exact testBases_of_failing hj (fun i hi => (good i hi).passes) bad.fails

/-! ## Primes -/

/-- Where 1 has no other square roots than 1 and -1: a number whose `2^r`-th power is 1 is 1 itself, or one of its repeated squares
before that is -1. -/
theorem eq_one_or_pow_eq_neg_one {F : Type} [Field F] {x : F} {r : Nat} (h : x ^ 2 ^ r = 1) :
    x = 1 ∨ ∃ j, j < r ∧ x ^ 2 ^ j = -1 := by
  induction r with
  | zero => exact .inl (by simpa using h)
  | succ r ih =>
    rw [Nat.pow_succ, pow_mul] at h
    rcases sq_eq_one_iff.mp h with one | minus
    · rcases ih one with one | ⟨j, hj, minus⟩
      · exact .inl one
      · exact .inr ⟨j, by omega, minus⟩
    · exact .inr ⟨r, by omega, minus⟩

/-- A remainder modulo n is a number below n exactly when the two are equal modulo n. -/
theorem mod_eq_iff_cast_eq {n x c : Nat} (h : c < n) : x % n = c ↔ (x : ZMod n) = c := by
  rw [ZMod.natCast_eq_natCast_iff', Nat.mod_eq_of_lt h]

/-- R212 (general knowledge): every legal base of an odd prime passes, by Fermat's theorem and the square roots of 1 in a field. -/
theorem basePasses_of_prime {n a : Nat} (prime : n.Prime) (hn : 3 ≤ n) (odd : n % 2 = 1) (low : 1 ≤ a) (high : a < n) :
    basePasses n (decompose n).1 (decompose n).2 a = true := by
  have : Fact n.Prime := ⟨prime⟩
  have minusOne : ((n - 1 : Nat) : ZMod n) = -1 := by
    rw [Nat.cast_pred prime.pos, ZMod.natCast_self, zero_sub]
  have nonzero : (a : ZMod n) ≠ 0 := fun zero =>
    absurd (Nat.le_of_dvd low ((ZMod.natCast_eq_zero_iff a n).mp zero)) (Nat.not_le.mpr high)
  have fermat : ((a : ZMod n) ^ (decompose n).1) ^ 2 ^ (decompose n).2 = 1 := by
    rw [← pow_mul, ← (decompose_spec prime.two_le).1]
    exact ZMod.pow_card_sub_one_eq_one nonzero
  rw [basePasses_eq_true_iff _ _ prime.one_le (decompose_exponent_pos hn odd), mod_eq_iff_cast_eq prime.one_lt]
  rcases eq_one_or_pow_eq_neg_one fermat with one | ⟨j, hj, minus⟩
  · exact .inl (by rw [Nat.cast_pow, one, Nat.cast_one])
  · refine .inr ⟨j, hj, (mod_eq_iff_cast_eq (Nat.sub_lt prime.pos Nat.one_pos)).mpr ?_⟩
    rw [Nat.cast_pow, pow_mul, minus, minusOne]

/-- Settles O41: 2 and 3 pass without a base, and every base that is drawn for a larger prime passes. -/
theorem primesAlwaysPass : Obligations.PrimesAlwaysPass := by
  intro n k e prime
  rcases Nat.lt_or_ge n 4 with small | large
  · have := prime.two_le
    rw [isProbablyPrime_of_two_or_three k e (by omega)]
  · have odd : n % 2 = 1 := prime.eq_two_or_odd.resolve_left (by omega)
    rw [isProbablyPrime_of_odd k e large odd, testBases_of_passing fun i _ => ?_]
    obtain ⟨low, high⟩ := drawnBase_legal (n := n) (e.after i) large
    exact basePasses_of_prime prime (by omega) odd (by omega) (by omega)

end Sys2Proof.Machine
end

section
/-! SUPPORT. The results of `QR.KEYGEN` and of the read-outs, and the faults of a command's arguments (R214 to R218, R262, R266, R268,
R306). -/

namespace Sys2Proof.Machine

/-! ## A run of `GenPrime` -/

/-- R12: a listed answer in the range of the draw is the value drawn. -/
theorem draw_of_listed {e : Entropy} {a lo hi : Nat} {used rest : List Nat} (listed : e.answers = used ++ a :: rest)
    (low : lo ≤ a) (high : a ≤ hi) : ((e.after used.length).draw lo hi).1 = a := by
  have next : (e.after used.length).answer = a := Entropy.answer_of_cons (Entropy.answers_after listed)
  rw [Entropy.draw, next, inRange_of_mem lo hi a low high]

/-- R12: a listed answer that is a candidate is the candidate drawn. -/
theorem drawCandidate_of_listed {e : Entropy} {b c : Nat} {rest : List Nat} (listed : e.answers = c :: rest)
    (candidate : IsCandidate b c) : e.drawCandidate b = (c, e.after 1) := by
  rw [Entropy.drawCandidate, Entropy.answer_of_cons listed, inCandidates_of_isCandidate b c candidate,
    Entropy.advance_eq_after]

theorem odd_of_isCandidate {b c : Nat} (h : IsCandidate b c) : c % 2 = 1 := by
  obtain ⟨-, form⟩ := h
  omega

/-- R212: a number whose passing bases and then a failing one are listed next fails the test with exactly these draws. -/
theorem isProbablyPrime_of_badBase {n k bad : Nat} {good rest : List Nat} {e : Entropy} (hn : 4 ≤ n) (odd : n % 2 = 1)
    (short : good.length < k) (listed : e.answers = good ++ bad :: rest) (passing : ∀ a ∈ good, GoodBase n a)
    (failing : BadBase n bad) : isProbablyPrime n k e = (false, e.after (good.length + 1)) := by
  rw [isProbablyPrime_of_odd k e hn odd]
  refine testBases_of_failing short (fun i hi => ?_) ?_
  · obtain ⟨low, high, passes⟩ := passing good[i] (List.getElem_mem hi)
    have split : e.answers = good.take i ++ good[i] :: (good.drop (i + 1) ++ bad :: rest) := by
      rw [listed, ← List.cons_append, List.getElem_cons_drop, ← List.append_assoc, List.take_append_drop]
    have drawn := draw_of_listed split low high
    rw [List.length_take_of_le hi.le] at drawn
    rw [drawn]
    exact passes
  · obtain ⟨low, high, fails⟩ := failing
    rw [draw_of_listed listed low high]
    exact fails

/-- R214, R215: one try of a search with a candidate and its bases up to a failing one listed next forgets the candidate. -/
theorem searchPrimes_of_rejected {b c bad : Nat} (tries : Nat) (found : Option Nat) {good rest : List Nat} {e : Entropy}
    (hb : 3 ≤ b) (candidate : IsCandidate b c) (short : good.length < Config.mrRounds) (passing : ∀ a ∈ good, GoodBase c a)
    (failing : BadBase c bad) (listed : e.answers = c :: (good ++ bad :: rest)) :
    searchPrimes b (tries + 1) found e = searchPrimes b tries found (e.after (good.length + 2)) := by
  have drawn : e.drawCandidate b = (c, e.after 1) := drawCandidate_of_listed listed candidate
  have odd : c % 2 = 1 := odd_of_isCandidate candidate
  have listed' : (e.after 1).answers = good ++ bad :: rest := Entropy.answers_after (used := [c]) listed
  have fails : isProbablyPrime c Config.mrRounds (e.after 1) = (false, e.after (good.length + 2)) := by
    rw [isProbablyPrime_of_badBase (four_le_of_isCandidate hb candidate) odd short listed' passing failing,
      Entropy.after_add, Nat.add_comm 1]
  simp only [searchPrimes, drawn, fails, Bool.false_eq_true, if_false]

/-- R215, R306: a search over the listed draws of a run of `GenPrime` accepts the number of the run, after at most one try for each
draw, and has used up exactly the run. -/
theorem searchPrimes_of_genPrime {b p : Nat} {draws rest : List Nat} {e : Entropy} (hb : 3 ≤ b) (run : GenPrime b draws p)
    (listed : e.answers = draws ++ rest) :
    ∃ tried, tried ≤ draws.length ∧ ∀ more,
      searchPrimes b (more + tried) none e = searchPrimes b more (some p) (e.after draws.length) ∧
      ∀ first, searchPrimes b (more + tried) (some first) e = .done first p (e.after draws.length) := by
  induction run generalizing e with
  | accept c bases candidate rounds good =>
    exact ⟨1, by simp, fun more => searchPrimes_of_acceptedWith more hb ⟨candidate, rounds, good⟩ listed⟩
  | reject c good bad draws p candidate short passing failing _ ih =>
    have listed' : e.answers = c :: (good ++ bad :: (draws ++ rest)) := by simpa using listed
    have remaining : (e.after (good.length + 2)).answers = draws ++ rest := by
      have := Entropy.answers_after (e := e) (used := c :: (good ++ [bad])) (rest := draws ++ rest) (by simpa using listed)
      simpa using this
    have used : (e.after (good.length + 2)).after draws.length = e.after (c :: (good ++ bad :: draws)).length := by
      rw [Entropy.after_add, List.length_cons, List.length_append, List.length_cons]
      congr 1
      omega
    obtain ⟨tried, bound, later⟩ := ih remaining
    refine ⟨tried + 1, by simp only [List.length_cons, List.length_append]; omega, fun more => ?_⟩
    obtain ⟨fresh, second⟩ := later more
    have step (found : Option Nat) := searchPrimes_of_rejected (more + tried) found hb candidate short passing failing listed'
    rw [← used, ← Nat.add_assoc, step none]
    exact ⟨fresh, fun first => (step (some first)).trans (second first)⟩

/-! ## `QR.KEYGEN` -/

/-- R214: a search that still needs `q` and has a run of `GenPrime` for it listed next ends with it. -/
theorem searchPrimes_second {b p q : Nat} {qs rest : List Nat} {e : Entropy} (hb : 3 ≤ b) (run : GenPrime b qs q)
    (listed : e.answers = qs ++ rest) {tries : Nat} (enough : qs.length ≤ tries) :
    searchPrimes b tries (some p) e = .done p q (e.after qs.length) := by
  obtain ⟨tried, bound, ends⟩ := searchPrimes_of_genPrime hb run listed
  obtain ⟨more, rfl⟩ : ∃ more, tries = more + tried := ⟨tries - tried, by omega⟩
  exact (ends more).2 p

/-- R214: a new search with runs of `GenPrime` for `p` and then for `q` listed next ends with them. -/
theorem searchPrimes_both {b p q : Nat} {ps qs rest : List Nat} {e : Entropy} (hb : 3 ≤ b) (runP : GenPrime b ps p)
    (runQ : GenPrime b qs q) (listed : e.answers = ps ++ qs ++ rest) {tries : Nat} (enough : ps.length + qs.length ≤ tries) :
    searchPrimes b tries none e = .done p q (e.after (ps.length + qs.length)) := by
  rw [List.append_assoc] at listed
  obtain ⟨tried, bound, goesOn⟩ := searchPrimes_of_genPrime hb runP listed
  obtain ⟨more, rfl⟩ : ∃ more, tries = more + tried := ⟨tries - tried, by omega⟩
  rw [(goesOn more).1, searchPrimes_second hb runQ (Entropy.answers_after listed) (by omega), Entropy.after_add]

/-- R105, R214: a turn of `QR.KEYGEN` whose search ends completes the command with the key of its two numbers. -/
theorem qrKeygen_of_done {s : State} {kbits p q : Nat} {e : Entropy} (unkeyed : s.qr.key = none)
    (legal : badKeySize s.params kbits = false)
    (search : searchPrimes (kbits / 2) s.entropy.tries s.qr.found s.entropy = .done p q e) :
    ∃ t, exec (.qrKeygen kbits) s = .next t ∧ Completed s t .qr [] ∧ t.qr.key = some { p := p, q := q, n := p * q } ∧
      t.keyed .qr = true ∧ t.entropy = e := by
  refine ⟨_, exec_qrKeygen kbits s, ?_⟩
  rw [keygenStep_of_done unkeyed legal search]
  exact ⟨completed_finishQr s e _, rfl, rfl, rfl⟩

/-- Settles O43: the listed draws are enough tries for the search to end in this turn. -/
theorem qrKeygenResult : Obligations.QrKeygenResult := by
  intro s kbits p q ps qs rest unkeyed even low high runQ
  have legal : badKeySize s.params kbits = false := (badKeySize_eq_false _ _).mpr ⟨even, low, high⟩
  have hb : 3 ≤ kbits / 2 := by omega
  refine ⟨fun fresh runP listed => ?_, fun found listed => ?_⟩
  · have enough : ps.length + qs.length ≤ s.entropy.tries := by
      rw [Entropy.tries, listed, List.length_append, List.length_append]
      omega
    exact qrKeygen_of_done unkeyed legal (fresh ▸ searchPrimes_both hb runP runQ listed enough)
  · have enough : qs.length ≤ s.entropy.tries := by
      rw [Entropy.tries, listed, List.length_append]
      omega
    exact qrKeygen_of_done unkeyed legal (found ▸ searchPrimes_second hb runQ listed enough)

/-! ## The read-outs -/

/-- R216 to R218: the rule of a read-out on a keyed unit, for each of the key's numbers. -/
theorem finishQr_readKeyRule {s : State} {k : QrKey} (keyed : s.qr.key = some k) (f : QrKey → Nat) :
    let t := s.finishQr (readKeyRule f s)
    Completed s t .qr (i2osp s.params.qrZeroLen (f k)) ∧ t.qr.key = some k ∧ t.entropy = s.entropy :=
  finishQr_of_rule_ok ((readKeyRule_eq_ok f s _).mpr ⟨k, keyed, rfl⟩)

/-- Settles O47. -/
theorem qrReadOutResult : Obligations.QrReadOutResult := fun s _ keyed =>
  ⟨⟨_, exec_qrGetn s, finishQr_readKeyRule keyed QrKey.n⟩, ⟨_, exec_qrGetp s, finishQr_readKeyRule keyed QrKey.p⟩,
    ⟨_, exec_qrGetq s, finishQr_readKeyRule keyed QrKey.q⟩⟩

/-! ## The argument faults -/

/-- R105: a `QR` command other than `QR.KEYGEN` ends with the draws and the result of its rule. -/
theorem exec_eq_qrRule {i : Instr} (hu : i.unit = .qr) (other : ∀ kbits, i ≠ .qrKeygen kbits) (s : State) :
    exec i s = .next ({ s with entropy := (qrRule i s).2 }.finishQr (qrRule i s).1) := by
  cases i with
  | qrKeygen kbits => exact absurd rfl (other kbits)
  | qrIsprime | qrEnc | qrDec | qrGetn | qrGetp | qrGetq | qrClear => rfl
  | bcInit | bcEncb | bcDecb | bcEnc | bcDec | bcClear => exact nomatch hu

/-- R105, R261: a `QR` command other than `QR.KEYGEN` whose rule gives a fault before any draw takes the fault branch. -/
theorem exec_of_qrRule_error {i : Instr} {s : State} {e : CmdFault} (hu : i.unit = .qr) (other : ∀ kbits, i ≠ .qrKeygen kbits)
    (rule : qrRule i s = (.error e, s.entropy)) : ∃ t, exec i s = .next t ∧ Failed s t .qr e :=
  ⟨s.finishQr (.error e), by rw [exec_eq_qrRule hu other, rule], failed_finishQr s e⟩

section
variable {s : State}

/-- R152, R266. -/
theorem bcInitRule_of_emptyKey (unkeyed : s.bc.key = none) (empty : s.bc.shell.ilen = 0) :
    bcInitRule s = .error .invalidKey := by
  simp only [bcInitRule, unkeyed, if_pos empty]

/-- R152, R266: a key that is too long is not empty. -/
theorem bcInitRule_of_tooLong (unkeyed : s.bc.key = none) (long : s.params.bcBuf < s.bc.shell.ilen.toNat) :
    bcInitRule s = .error .invalidLength := by
  have nonempty : s.bc.shell.ilen ≠ 0 := fun empty => absurd long (by simp [empty])
  simp only [bcInitRule, unkeyed, if_neg nonempty, if_pos long]

/-- R135, R136, R266. -/
theorem oneBlockRule_of_ilen_ne {f : BcKey → Word → Word → Word × Word} {k : BcKey} (keyed : s.bc.key = some k)
    (length : s.bc.shell.ilen ≠ 8) : oneBlockRule f s = .error .invalidLength := by
  simp only [oneBlockRule, keyed, if_neg length]

/-- R172, R266. -/
theorem bcEncRule_of_tooLong {k : BcKey} (keyed : s.bc.key = some k)
    (long : s.params.bcBuf - 1 < s.bc.shell.ilen.toNat) : bcEncRule s = .error .invalidLength := by
  simp only [bcEncRule, keyed, if_pos long]

/-- R174, R266. -/
theorem bcDecRule_of_badLength {k : BcKey} (keyed : s.bc.key = some k)
    (bad : s.bc.shell.ilen = 0 ∨ s.bc.shell.ilen.toNat % 8 ≠ 0 ∨ s.params.bcBuf < s.bc.shell.ilen.toNat) :
    bcDecRule s = .error .invalidLength := by
  simp only [bcDecRule, keyed, if_pos bad]

/-- R213, R266. -/
theorem isprimeRule_of_tooLong (k : Nat) (long : s.params.qrBuf < s.qr.shell.ilen.toNat) :
    isprimeRule k s = (.error .invalidLength, s.entropy) := if_pos long

/-- R241, R266. -/
theorem qrEncRule_of_tooLong {k : QrKey} (keyed : s.qr.key = some k) (long : s.params.qrBuf < s.qr.shell.ilen.toNat) :
    qrEncRule s = .error .invalidLength := by
  simp only [qrEncRule, keyed, if_pos long]

/-- R245, R266. -/
theorem qrDecRule_of_tooLong {k : QrKey} (keyed : s.qr.key = some k) (long : s.params.qrBuf < s.qr.shell.ilen.toNat) :
    qrDecRule s = .error .invalidLength := by
  simp only [qrDecRule, keyed, if_pos long]

/-- R214, R260: an illegal key size on an unkeyed unit. -/
theorem keygenStep_of_badKeySize {kbits : Nat} (unkeyed : s.qr.key = none) (bad : badKeySize s.params kbits = true) :
    keygenStep kbits s = s.finishQr (.error .invalidKeySize) := by
  simp only [keygenStep, unkeyed, if_pos bad]

end

/-- Settles O55: past the check of the key state, the rule of each command gives the fault of its argument. -/
theorem argumentFaults : Obligations.ArgumentFaults := by
  intro s
  refine ⟨fun unkeyed empty => ?_, fun unkeyed long => ?_, fun keyed length i one => ?_, fun keyed long => ?_,
    fun keyed bad => ?_, fun long k => ?_, fun keyed long i crypt => ?_, fun unkeyed kbits bad => ?_⟩
  · exact exec_of_bcRule_error rfl (bcInitRule_of_emptyKey unkeyed empty)
  · exact exec_of_bcRule_error rfl (bcInitRule_of_tooLong unkeyed long)
  · obtain ⟨k, key⟩ := Option.ne_none_iff_exists'.mp keyed
    simp only [List.mem_cons, List.not_mem_nil, or_false] at one
    rcases one with rfl | rfl
    · exact exec_of_bcRule_error rfl (oneBlockRule_of_ilen_ne key length)
    · exact exec_of_bcRule_error rfl (oneBlockRule_of_ilen_ne key length)
  · obtain ⟨k, key⟩ := Option.ne_none_iff_exists'.mp keyed
    exact exec_of_bcRule_error rfl (bcEncRule_of_tooLong key long)
  · obtain ⟨k, key⟩ := Option.ne_none_iff_exists'.mp keyed
    exact exec_of_bcRule_error rfl (bcDecRule_of_badLength key bad)
  · exact exec_of_qrRule_error rfl nofun (isprimeRule_of_tooLong k long)
  · obtain ⟨k, key⟩ := Option.ne_none_iff_exists'.mp keyed
    simp only [List.mem_cons, List.not_mem_nil, or_false] at crypt
    rcases crypt with rfl | rfl
    · exact exec_of_qrRule_error rfl nofun (congrArg (·, s.entropy) (qrEncRule_of_tooLong key long))
    · exact exec_of_qrRule_error rfl nofun (congrArg (·, s.entropy) (qrDecRule_of_tooLong key long))
  · have size : badKeySize s.params kbits = true := decide_eq_true bad
    exact ⟨_, exec_qrKeygen kbits s, by rw [keygenStep_of_badKeySize unkeyed size]; exact failed_finishQr s _⟩

end Sys2Proof.Machine
end

section
/-! SUPPORT. Encryption and decryption: which messages fit a key, the candidates of a ciphertext as residues modulo the two primes,
the scan of the candidates, and when a message comes back (R242, R244 to R247). -/

namespace Sys2Proof.Machine

/-! ## Messages that fit -/

/-- R242: the encoding of a message has one byte more than the message. -/
theorem encodeMessage_lt (msg : List Byte) : encodeMessage msg < 2 ^ (8 * (msg.length + 1)) := by
  rw [← pow_256_eq]
  exact os2ip_lt (sum8 msg :: msg)

/-- Settles O49: the encoding has at most `kbits - 8` bits, and the key's `n` is at least `2^(kbits-2)`. -/
theorem shortMessagesFit : Obligations.ShortMessagesFit := by
  intro s t kbits k msg unkeyed turn run key short
  obtain ⟨-, -, -, -, -, -, large, -⟩ := qrKeygenGuarantees s t kbits k unkeyed turn run key
  calc encodeMessage msg < 2 ^ (8 * (msg.length + 1)) := encodeMessage_lt msg
    _ ≤ 2 ^ (kbits - 2) := Nat.pow_le_pow_right (by decide) (by omega)
    _ ≤ k.n := large

/-! ## A ciphertext and its residue -/

/-- R194: the base may be reduced modulo any multiple of the modulus. -/
theorem modExp_mod_base {m n : Nat} (divides : m ∣ n) (hm : 1 ≤ m) (b e : Nat) : modExp (b % n) e m = modExp b e m := by
  rw [modExp_eq _ e hm, modExp_eq b e hm]
  exact ((Nat.mod_modEq b n).of_dvd divides).pow e

/-- Settles O51: the ciphertext enters the candidates through the two exponentiations only. -/
theorem rootsReduceCiphertext : Obligations.RootsReduceCiphertext := by
  intro p q c hp hq
  have sameU : rootU p q (c % (p * q)) = rootU p q c := by rw [rootU, rootU, modExp_mod_base (dvd_mul_left q p) hq]
  have sameV : rootV p q (c % (p * q)) = rootV p q c := by rw [rootV, rootV, modExp_mod_base (dvd_mul_right p q) hp]
  simp only [roots, root1, root2, sameU, sameV]

/-! ## Residues modulo the two primes -/

/-- Reducing an integer modulo `n` keeps its residue modulo every divisor of `n`. -/
theorem cast_emod_of_dvd {d n : Nat} (divides : d ∣ n) (a : Int) : ((a % (n : Int) : Int) : ZMod d) = a :=
  (ZMod.intCast_eq_intCast_iff _ _ d).mpr ((Int.mod_modEq a n).of_dvd (Int.natCast_dvd_natCast.mpr divides))

/-- The Chinese remainder theorem: equality modulo `p*q` is equality in both residue rings. -/
theorem mod_mul_eq_iff_cast_eq {p q : Nat} (coprime : p.Coprime q) (x y : Nat) :
    x % (p * q) = y % (p * q) ↔ (x : ZMod p) = y ∧ (x : ZMod q) = y := by
  rw [ZMod.natCast_eq_natCast_iff, ZMod.natCast_eq_natCast_iff, Nat.modEq_and_modEq_iff_modEq_mul coprime, Nat.ModEq]

/-- R244: `ModExp(c, (p+1) div 4, p)` as a residue, the root of `c` modulo a prime that is 3 modulo 4. -/
def residueRoot (p c : Nat) : ZMod p := (c : ZMod p) ^ ((p + 1) / 4)

theorem cast_modExp_eq_residueRoot {p : Nat} (hp : 1 ≤ p) (c : Nat) :
    (modExp c ((p + 1) / 4) p : ZMod p) = residueRoot p c := by
  rw [modExp_eq c _ hp, ZMod.natCast_mod, Nat.cast_pow, residueRoot]

/-- R244: the squares of the residue root are `c`, by Fermat's theorem: the fourth power of `y^((p+1)/4)` is `y^(p+1)`. -/
theorem residueRoot_sq {p c : Nat} (prime : p.Prime) (three : p % 4 = 3) {y : ZMod p} (square : y * y = c) :
    residueRoot p c ^ 2 = c := by
  have : Fact p.Prime := ⟨prime⟩
  have exponent : 2 * ((p + 1) / 4 * 2) = p + 1 := by omega
  rw [residueRoot, ← square, ← pow_two, ← pow_mul, ← pow_mul, exponent, pow_succ, ZMod.pow_card, pow_two]

/-- R244: in the field of residues the square roots of `c` are the residue root and its negative. -/
theorem mul_self_eq_iff_residueRoot {p c : Nat} (prime : p.Prime) (three : p % 4 = 3) {y : ZMod p} (square : y * y = c)
    (x : ZMod p) : x * x = c ↔ x = residueRoot p c ∨ x = -residueRoot p c := by
  have : Fact p.Prime := ⟨prime⟩
  rw [← residueRoot_sq prime three square, ← pow_two, sq_eq_sq_iff_eq_or_eq_neg]

/-- R198: a Bézout pair, with the residues of its two products. -/
theorem exists_bezout_residues {p q : Nat} (coprime : p.Coprime q) : ∃ yp yq : Int, yp * p + yq * q = 1 ∧
    ((yp * p : Int) : ZMod p) = 0 ∧ ((yp * p : Int) : ZMod q) = 1 ∧
    ((yq * q : Int) : ZMod p) = 1 ∧ ((yq * q : Int) : ZMod q) = 0 := by
  obtain ⟨yp, yq, bezout⟩ := Nat.isCoprime_iff_coprime.mpr coprime
  have one {d : Nat} {a : Int} (h : a ≡ 1 [ZMOD d]) : (a : ZMod d) = 1 := by
    rw [← Int.cast_one, ZMod.intCast_eq_intCast_iff]
    exact h
  have oneQ := ((modEq_bezout_iff bezout _).mp rfl).2
  have oneP := ((modEq_bezout_iff ((add_comm _ _).trans bezout) _).mp rfl).2
  exact ⟨yp, yq, bezout, by simp, one oneQ, one oneP, by simp⟩

section
variable {p q : Nat} (hp : 0 < p) (hq : 0 < q) (coprime : p.Coprime q) (c : Nat)
include hp hq coprime

/-- R244: `u` is 0 modulo p and the residue root modulo q. -/
theorem cast_rootU : (rootU p q c : ZMod p) = 0 ∧ (rootU p q c : ZMod q) = residueRoot q c := by
  obtain ⟨yp, yq, bezout, zeroP, oneQ, -, -⟩ := exists_bezout_residues coprime
  have value := rootU_of_bezout hp hq bezout c
  constructor
  · rw [← Int.cast_natCast, value, cast_emod_of_dvd (dvd_mul_right p q), Int.cast_mul, zeroP, zero_mul]
  · rw [← Int.cast_natCast, value, cast_emod_of_dvd (dvd_mul_left q p), Int.cast_mul, oneQ, one_mul, Int.cast_natCast,
      cast_modExp_eq_residueRoot hq]

/-- R244: `v` is the residue root modulo p and 0 modulo q. -/
theorem cast_rootV : (rootV p q c : ZMod p) = residueRoot p c ∧ (rootV p q c : ZMod q) = 0 := by
  obtain ⟨yp, yq, bezout, -, -, oneP, zeroQ⟩ := exists_bezout_residues coprime
  have value := rootV_of_bezout hp hq bezout c
  constructor
  · rw [← Int.cast_natCast, value, cast_emod_of_dvd (dvd_mul_right p q), Int.cast_mul, oneP, one_mul, Int.cast_natCast,
      cast_modExp_eq_residueRoot hp]
  · rw [← Int.cast_natCast, value, cast_emod_of_dvd (dvd_mul_left q p), Int.cast_mul, zeroQ, zero_mul]

end

/-! ## The four candidates -/

theorem cast_root1 {p q d : Nat} (c : Nat) (divides : d ∣ p * q) : (root1 p q c : ZMod d) = rootU p q c + rootV p q c := by
  rw [← Nat.cast_add, ZMod.natCast_eq_natCast_iff]
  exact (Nat.mod_modEq _ _).of_dvd divides

section
variable {p q : Nat} (hp : 0 < p) (hq : 0 < q) (c : Nat)
include hp hq

theorem cast_root2 {d : Nat} (divides : d ∣ p * q) : (root2 p q c : ZMod d) = rootU p q c - rootV p q c := by
  rw [root2, ← Int.cast_natCast, Int.toNat_of_nonneg (Int.emod_nonneg _ (natCast_mul_ne_zero hp hq)),
    cast_emod_of_dvd divides, Int.cast_sub, Int.cast_natCast, Int.cast_natCast]

/-- R244: the third candidate is the negative of the first, the fourth of the second. -/
theorem cast_mul_sub_of_mem_roots {d r : Nat} (divides : d ∣ p * q) (hr : r ∈ roots p q c) :
    ((p * q - r : Nat) : ZMod d) = -r := by
  rw [Nat.cast_sub (roots_le p q c hp hq r hr), (ZMod.natCast_eq_zero_iff _ _).mpr divides, zero_sub]

end

/-- R244: the candidates have the four pairs of residues that the two roots and their signs allow, and no others. -/
theorem exists_root_iff {p q : Nat} (hp : 0 < p) (hq : 0 < q) (coprime : p.Coprime q) (c : Nat) (a : ZMod p) (b : ZMod q) :
    (∃ r ∈ roots p q c, (r : ZMod p) = a ∧ (r : ZMod q) = b) ↔
      (a = residueRoot p c ∨ a = -residueRoot p c) ∧ (b = residueRoot q c ∨ b = -residueRoot q c) := by
  obtain ⟨uP, uQ⟩ := cast_rootU hp hq coprime c
  obtain ⟨vP, vQ⟩ := cast_rootV hp hq coprime c
  have one : (root1 p q c : ZMod p) = residueRoot p c ∧ (root1 p q c : ZMod q) = residueRoot q c := by
    rw [cast_root1 c (dvd_mul_right p q), cast_root1 c (dvd_mul_left q p), uP, uQ, vP, vQ, zero_add, add_zero]
    exact ⟨rfl, rfl⟩
  have two : (root2 p q c : ZMod p) = -residueRoot p c ∧ (root2 p q c : ZMod q) = residueRoot q c := by
    rw [cast_root2 hp hq c (dvd_mul_right p q), cast_root2 hp hq c (dvd_mul_left q p), uP, uQ, vP, vQ, zero_sub, sub_zero]
    exact ⟨rfl, rfl⟩
  have negated {d r : Nat} := cast_mul_sub_of_mem_roots (d := d) (r := r) hp hq c
  have mem1 : root1 p q c ∈ roots p q c := List.mem_cons_self
  have mem2 : root2 p q c ∈ roots p q c := List.mem_cons_of_mem _ List.mem_cons_self
  have three : ((p * q - root1 p q c : Nat) : ZMod p) = -residueRoot p c ∧
      ((p * q - root1 p q c : Nat) : ZMod q) = -residueRoot q c := by
    rw [negated (dvd_mul_right p q) mem1, negated (dvd_mul_left q p) mem1, one.1, one.2]
    exact ⟨rfl, rfl⟩
  have four : ((p * q - root2 p q c : Nat) : ZMod p) = residueRoot p c ∧
      ((p * q - root2 p q c : Nat) : ZMod q) = -residueRoot q c := by
    rw [negated (dvd_mul_right p q) mem2, negated (dvd_mul_left q p) mem2, two.1, two.2, neg_neg]
    exact ⟨rfl, rfl⟩
  constructor
  · rintro ⟨r, hr, rfl, rfl⟩
    simp only [roots, List.mem_cons, List.not_mem_nil, or_false] at hr
    rcases hr with rfl | rfl | rfl | rfl
    · exact ⟨.inl one.1, .inl one.2⟩
    · exact ⟨.inr two.1, .inl two.2⟩
    · exact ⟨.inr three.1, .inr three.2⟩
    · exact ⟨.inl four.1, .inr four.2⟩
  · rintro ⟨rfl | rfl, rfl | rfl⟩
    · exact ⟨_, mem1, one⟩
    · exact ⟨_, by simp [roots], four⟩
    · exact ⟨_, mem2, two⟩
    · exact ⟨_, by simp [roots], three⟩

/-- Settles O50: modulo each prime a square root is the residue root or its negative, and the candidates have all four pairs of
these. -/
theorem rootsAreAllSquareRoots : Obligations.RootsAreAllSquareRoots := by
  intro p q c x primeP primeQ different threeP threeQ ⟨y, square⟩ below
  have coprime : p.Coprime q := (Nat.coprime_primes primeP primeQ).mpr different
  obtain ⟨squareP, squareQ⟩ := (mod_mul_eq_iff_cast_eq coprime _ _).mp square
  have same (r : Nat) : r % (p * q) = x ↔ (r : ZMod p) = x ∧ (r : ZMod q) = x := by
    rw [← mod_mul_eq_iff_cast_eq coprime, Nat.mod_eq_of_lt below]
  rw [Nat.cast_mul] at squareP squareQ
  simp only [same]
  rw [exists_root_iff primeP.pos primeQ.pos coprime, ← mul_self_eq_iff_residueRoot primeP threeP squareP,
    ← mul_self_eq_iff_residueRoot primeQ threeQ squareQ, mod_mul_eq_iff_cast_eq coprime, Nat.cast_mul, Nat.cast_mul]

/-! ## The scan -/

/-- R245: an accepted candidate is at least 2 bytes, the checksum of the message and the message. -/
theorem checkCandidate_eq_true_iff (b : List Byte) : checkCandidate b = true ↔ ∃ msg, msg ≠ [] ∧ b = sum8 msg :: msg := by
  match b with
  | [] => exact iff_of_false nofun nofun
  | [c] => simp [checkCandidate]
  | c :: v :: msg => simp [checkCandidate]

/-- R245: the scan stops at the first accepted candidate and gives its message. -/
theorem firstMessage_eq_some_iff (z : Nat) (rs : List Nat) (msg : List Byte) :
    firstMessage z rs = some msg ↔
      ∃ r, rs.find? (fun r => checkCandidate (i2osp z r)) = some r ∧ i2osp z r = sum8 msg :: msg := by
  rw [firstMessage, List.find?_map, Option.map_map, Option.map_eq_some_iff]
  refine exists_congr fun r => and_congr_right fun found => ?_
  have accepted : (checkCandidate ∘ i2osp z) r = true := List.find?_some found
  obtain ⟨msg', -, bytes⟩ := (checkCandidate_eq_true_iff _).mp accepted
  rw [Function.comp_apply, bytes, List.tail_cons]
  exact ⟨fun same => by rw [same], fun same => (List.cons.inj same).2⟩

/-- R105: `QR.DEC` of an operand of legal length completes with the message the scan gives. -/
theorem exec_qrDec_of_firstMessage {s : State} {k : QrKey} {msg : List Byte} (keyed : s.qr.key = some k)
    (fits : s.qr.shell.ilen.toNat ≤ s.params.qrBuf)
    (scan : firstMessage s.params.qrZeroLen (roots k.p k.q (os2ip (s.operand .qr))) = some msg) :
    ∃ t, exec .qrDec s = .next t ∧ Completed s t .qr msg ∧ t.qr.key = some k ∧ t.entropy = s.entropy :=
  ⟨_, exec_qrDec s, finishQr_of_rule_ok ((qrDecRule_eq_ok s _).mpr ⟨k, msg, keyed, fits, scan, rfl⟩)⟩

/-- Settles O52: the scan passes over the candidates before and stops at this one. -/
theorem qrDecResult : Obligations.QrDecResult := by
  intro s k before after r c msg keyed fits candidates passed bytes nonempty checksum
  have accepted : checkCandidate (i2osp s.params.qrZeroLen r) = true :=
    (checkCandidate_eq_true_iff _).mpr ⟨msg, nonempty, by rw [bytes, checksum]⟩
  have rejected : ∀ x ∈ before, (!checkCandidate (i2osp s.params.qrZeroLen x)) = true := fun x hx => by
    rw [(checkCandidate_eq_false_iff _).mpr (passed x hx), Bool.not_false]
  refine exec_qrDec_of_firstMessage keyed fits ((firstMessage_eq_some_iff _ _ _).mpr ⟨r, ?_, by rw [bytes, checksum]⟩)
  exact List.find?_eq_some_iff_append.mpr ⟨accepted, before, after, candidates, rejected⟩

/-! ## The round trip -/

/-- A member that passes a test is the first that does exactly when everything before it fails. -/
theorem find?_eq_some_iff_takeWhile {p : Nat → Bool} {a : Nat} {l : List Nat} (mem : a ∈ l) (pass : p a = true) :
    l.find? p = some a ↔ ∀ x ∈ l.takeWhile (fun x => x != a), p x = false := by
  induction l with
  | nil => exact nomatch mem
  | cons x l ih =>
    by_cases here : x = a
    · subst here
      simp [pass]
    · have later : a ∈ l := (List.mem_cons.mp mem).resolve_left (Ne.symm here)
      cases px : p x with
      | true => simp [px, here]
      | false => simp [px, here, ih later]

/-- R192, R247: the candidate that serialises to the checksum and the message is the encoding, if the checksum is not 0. -/
theorem i2osp_eq_encoded_iff {z : Nat} (hz : z ≤ 1) (r : Nat) {msg : List Byte} (nonempty : msg ≠ []) :
    i2osp z r = sum8 msg :: msg ↔ r = encodeMessage msg ∧ sum8 msg ≠ 0 := by
  constructor
  · intro bytes
    have value : r = encodeMessage msg := by rw [encodeMessage, ← bytes, os2ip_i2osp]
    have long := congrArg List.length bytes
    have pos : 1 ≤ r := by
      by_contra zero
      obtain rfl : r = 0 := by omega
      have := List.length_pos_iff.mpr nonempty
      rw [i2osp_zero, List.length_replicate, List.length_cons] at long
      omega
    obtain ⟨v, head, nonzero⟩ := i2osp_head z r pos
    rw [bytes, List.head?_cons, Option.some.injEq] at head
    exact ⟨value, head ▸ nonzero⟩
  · rintro ⟨rfl, nonzero⟩
    exact i2osp_os2ip z _ _ nonzero

/-- R196: only a message with checksum 0 can encode to 0. -/
theorem encodeMessage_pos {msg : List Byte} (nonzero : sum8 msg ≠ 0) : 0 < encodeMessage msg := by
  have first : 0 < (sum8 msg).toNat := Nat.pos_of_ne_zero fun zero => nonzero (BitVec.eq_of_toNat_eq zero)
  rw [encodeMessage, os2ip_cons]
  exact Nat.add_pos_left (Nat.mul_pos first (Nat.pow_pos (by decide))) _

/-- R33, R75: a completed command has one result, where results have fewer than `2^32` bytes. -/
theorem Completed.result_unique {s t : State} {u : UnitId} {out out' : List Byte} (h : Completed s t u out)
    (h' : Completed s t u out') (fits : out.length < 2 ^ 32) (fits' : out'.length < 2 ^ 32) : out = out' := by
  have length : out.length = out'.length :=
    (olen_toNat_of_lt h.olen fits).symm.trans (olen_toNat_of_lt h'.olen fits')
  refine List.ext_getElem length fun i hi hi' => ?_
  have byte := (h.obuf i).symm.trans (h'.obuf i)
  rwa [List.getD_eq_getElem _ _ hi, List.getD_eq_getElem _ _ hi'] at byte

/-- R245: a message `QR.DEC` gives fits the buffer. -/
theorem firstMessage_length {s : State} {k : QrKey} {c : Nat} {msg : List Byte} (legal : s.params.legal) (hp : 0 < k.p)
    (hq : 0 < k.q) (bound : k.p * k.q < 2 ^ s.params.qrKmax)
    (scan : firstMessage s.params.qrZeroLen (roots k.p k.q c) = some msg) : msg.length ≤ s.params.qrBuf := by
  obtain ⟨r, hr, -, rfl⟩ := firstMessage_some _ _ _ scan
  have := i2osp_length s.params legal r (lt_of_le_of_lt (roots_le k.p k.q c hp hq r hr) bound)
  rw [List.length_tail]
  omega

/-- R245: `QR.DEC` completes with a message exactly when the scan gives it. -/
theorem qrDec_completes_iff {s : State} {k : QrKey} {msg : List Byte} (legal : s.params.legal) (keyed : s.qr.key = some k)
    (hp : 0 < k.p) (hq : 0 < k.q) (bound : k.p * k.q < 2 ^ s.params.qrKmax) (short : msg.length ≤ s.params.qrBuf)
    (fits : s.qr.shell.ilen.toNat ≤ s.params.qrBuf) :
    (∃ t, exec .qrDec s = .next t ∧ Completed s t .qr msg) ↔
      firstMessage s.params.qrZeroLen (roots k.p k.q (os2ip (s.operand .qr))) = some msg := by
  constructor
  · rintro ⟨t, run, completed⟩
    cases scan : firstMessage s.params.qrZeroLen (roots k.p k.q (os2ip (s.operand .qr))) with
    | none =>
      obtain rfl : s.finishQr (qrDecRule s) = t := Host.Outcome.next.inj run
      rw [qrDecRule_of_no_message keyed fits scan] at completed
      exact nomatch (failed_finishQr s _).err.symm.trans completed.err
    | some out =>
      obtain ⟨t', run', completed', -⟩ := exec_qrDec_of_firstMessage keyed fits scan
      obtain rfl : t' = t := Host.Outcome.next.inj (run'.symm.trans run)
      have outShort := firstMessage_length legal hp hq bound scan
      have below := Params.qrBuf_lt legal
      rw [completed'.result_unique completed (by omega) (by omega)]
  · intro scan
    obtain ⟨t, run, completed, -⟩ := exec_qrDec_of_firstMessage keyed fits scan
    exact ⟨t, run, completed⟩

/-- R247: the scan gives the message exactly when its checksum is not 0 and no candidate before its encoding is accepted. -/
theorem firstMessage_eq_some_iff_takeWhile {z : Nat} (hz : z ≤ 1) {rs : List Nat} {msg : List Byte}
    (mem : sum8 msg ≠ 0 → encodeMessage msg ∈ rs) :
    firstMessage z rs = some msg ↔
      sum8 msg ≠ 0 ∧ ∀ r ∈ rs.takeWhile (fun r => r != encodeMessage msg), checkCandidate (i2osp z r) = false := by
  rw [firstMessage_eq_some_iff]
  by_cases empty : msg = []
  · subst empty
    refine iff_of_false ?_ fun ⟨nonzero, _⟩ => nonzero rfl
    rintro ⟨r, found, bytes⟩
    have accepted := List.find?_some found
    rw [bytes] at accepted
    exact nomatch accepted
  · simp only [i2osp_eq_encoded_iff hz _ empty]
    have accepted (nonzero : sum8 msg ≠ 0) : checkCandidate (i2osp z (encodeMessage msg)) = true :=
      (checkCandidate_eq_true_iff _).mpr ⟨msg, empty, i2osp_os2ip z _ _ nonzero⟩
    constructor
    · rintro ⟨r, found, rfl, nonzero⟩
      exact ⟨nonzero, (find?_eq_some_iff_takeWhile (mem nonzero) (accepted nonzero)).mp found⟩
    · rintro ⟨nonzero, rejected⟩
      exact ⟨_, (find?_eq_some_iff_takeWhile (mem nonzero) (accepted nonzero)).mpr rejected, rfl, nonzero⟩

/-- R247: a candidate whose residue modulo n is positive is below n, so it is its own residue. -/
theorem mem_roots_of_mod_eq {p q c r m : Nat} (hp : 0 < p) (hq : 0 < q) (hr : r ∈ roots p q c) (residue : r % (p * q) = m)
    (pos : 0 < m) : m ∈ roots p q c := by
  have below : r < p * q := by
    refine lt_of_le_of_ne (roots_le p q c hp hq r hr) fun whole => ?_
    rw [whole, Nat.mod_self] at residue
    omega
  rwa [← residue, Nat.mod_eq_of_lt below]

/-- Settles O53: the encoding is a square root of its ciphertext, so it is a candidate (O50), and the scan takes it exactly when it
is the first that is accepted. -/
theorem qrRoundTripExactly : Obligations.QrRoundTripExactly := by
  intro s k msg legal keyed primeP primeQ different threeP threeQ product bound short below fits ciphertext rs
  have ⟨_, _, zeroLen, _⟩ := legal
  have value : os2ip (s.operand .qr) = encodeMessage msg * encodeMessage msg % k.n := by rw [ciphertext, os2ip_i2osp]
  rw [product] at bound below value ⊢
  have square : encodeMessage msg * encodeMessage msg % (k.p * k.q) = os2ip (s.operand .qr) % (k.p * k.q) := by
    rw [value, Nat.mod_mod]
  obtain ⟨r, hr, residue⟩ :=
    (rootsAreAllSquareRoots _ _ _ _ primeP primeQ different threeP threeQ ⟨_, square⟩ below).mp square
  refine ⟨⟨r, hr, residue⟩, ?_⟩
  rw [qrDec_completes_iff legal keyed primeP.pos primeQ.pos bound short fits]
  exact firstMessage_eq_some_iff_takeWhile zeroLen fun nonzero =>
    mem_roots_of_mod_eq primeP.pos primeQ.pos hr residue (encodeMessage_pos nonzero)

end Sys2Proof.Machine
end

section
/-! SUPPORT. The faults of the key state and the precision of every fault (R260 to R262, R268). -/

namespace Sys2Proof.Machine

/-! ## The key-state faults -/

/-- R25, R152: the rule of `BC.INIT` on a keyed unit. -/
theorem bcInitRule_of_keyed {s : State} {k : BcKey} (keyed : s.bc.key = some k) : bcInitRule s = .error .alreadyKeyed := by
  simp only [bcInitRule, keyed]

/-- R135, R136, R172, R174: the rules of the `BC` data commands look for the key first. -/
theorem bcRule_of_unkeyed {i : Instr} {s : State} (unkeyed : s.bc.key = none)
    (needsKey : i ∈ [Instr.bcEncb, .bcDecb, .bcEnc, .bcDec]) : bcRule i s = .error .notKeyed := by
  simp only [List.mem_cons, List.not_mem_nil, or_false] at needsKey
  rcases needsKey with rfl | rfl | rfl | rfl
  · simp only [bcRule, oneBlockRule, unkeyed]
  · simp only [bcRule, oneBlockRule, unkeyed]
  · simp only [bcRule, bcEncRule, unkeyed]
  · simp only [bcRule, bcDecRule, unkeyed]

/-- R216 to R218: the rule the read-outs share, on an unkeyed unit. -/
theorem readKeyRule_of_unkeyed (f : QrKey → Nat) {s : State} (unkeyed : s.qr.key = none) :
    readKeyRule f s = .error .notKeyed := by
  simp only [readKeyRule, unkeyed]

/-- R216 to R218, R241, R245: the rules of the `QR` commands that use the key look for it first. -/
theorem qrRule_of_unkeyed {i : Instr} {s : State} (unkeyed : s.qr.key = none)
    (needsKey : i ∈ [Instr.qrEnc, .qrDec, .qrGetn, .qrGetp, .qrGetq]) : qrRule i s = (.error .notKeyed, s.entropy) := by
  simp only [List.mem_cons, List.not_mem_nil, or_false] at needsKey
  rcases needsKey with rfl | rfl | rfl | rfl | rfl
  · simp only [qrRule, qrEncRule, unkeyed]
  · simp only [qrRule, qrDecRule, unkeyed]
  · simp only [qrRule, readKeyRule_of_unkeyed _ unkeyed]
  · simp only [qrRule, readKeyRule_of_unkeyed _ unkeyed]
  · simp only [qrRule, readKeyRule_of_unkeyed _ unkeyed]

/-- Settles O54: every rule looks at the key state before anything else, and a rule's fault is the command's fault. -/
theorem keyStateFaults : Obligations.KeyStateFaults := by
  intro s
  refine ⟨fun keyed => ?_, fun keyed kbits => ?_, fun unkeyed i needsKey => ?_, fun unkeyed i needsKey => ?_⟩
  · obtain ⟨k, key⟩ := Option.ne_none_iff_exists'.mp keyed
    exact exec_of_bcRule_error rfl (bcInitRule_of_keyed key)
  · obtain ⟨k, key⟩ := Option.ne_none_iff_exists'.mp keyed
    exact ⟨_, exec_qrKeygen kbits s, keygenStep_of_keyed kbits s k key ▸ failed_finishQr s _⟩
  · have bc : i.unit = .bc := (by decide : ∀ i ∈ [Instr.bcEncb, .bcDecb, .bcEnc, .bcDec], i.unit = .bc) i needsKey
    exact exec_of_bcRule_error bc (bcRule_of_unkeyed unkeyed needsKey)
  · have qr : i.unit = .qr :=
      (by decide : ∀ i ∈ [Instr.qrEnc, .qrDec, .qrGetn, .qrGetp, .qrGetq], i.unit = .qr) i needsKey
    have other : ∀ kbits, i ≠ .qrKeygen kbits := by
      rintro kbits rfl
      simp at needsKey
    exact exec_of_qrRule_error qr other (qrRule_of_unkeyed unkeyed needsKey)

/-! ## Every fault is precise -/

/-- R261: the rule of a `QR` command draws nothing when it gives a fault. -/
theorem qrRule_error_entropy {i : Instr} {s : State} {e : CmdFault} (fault : (qrRule i s).1 = .error e) :
    (qrRule i s).2 = s.entropy := by
  cases i with
  | qrIsprime k =>
    rcases Nat.lt_or_ge s.params.qrBuf s.qr.shell.ilen.toNat with long | fits
    · exact congrArg Prod.snd (isprimeRule_of_tooLong k long)
    · exact nomatch ((isprimeRule_eq_ok k s _).mpr ⟨fits, rfl⟩).symm.trans fault
  | bcInit | bcEncb | bcDecb | bcEnc | bcDec | bcClear | qrKeygen | qrEnc | qrDec | qrGetn | qrGetp | qrGetq | qrClear => rfl

/-- R105: a `BC` command that ends with `ERR` took the fault branch. -/
theorem failed_of_finishBc_err {s : State} {r : CmdResult BcKey} (err : ((s.finishBc r).shell .bc).err = true) :
    ∃ e, Failed s (s.finishBc r) .bc e := by
  cases r with
  | error e => exact ⟨e, failed_finishBc s e⟩
  | ok x => exact absurd ((completed_finishBc s x).err.symm.trans err) Bool.false_ne_true

/-- R105, R261: a `QR` command that ends with `ERR` took the fault branch, if a fault goes with no draw. -/
theorem failed_of_finishQr_err {s : State} {drawn : Entropy} {r : CmdResult QrKey}
    (noDraw : ∀ e, r = .error e → drawn = s.entropy)
    (err : (({ s with entropy := drawn }.finishQr r).shell .qr).err = true) :
    ∃ e, Failed s ({ s with entropy := drawn }.finishQr r) .qr e := by
  cases r with
  | error e =>
    obtain rfl := noDraw e rfl
    exact ⟨e, failed_finishQr s e⟩
  | ok x => exact absurd ((completed_finishQr s drawn x).err.symm.trans err) Bool.false_ne_true

/-- R214, R261: a turn of `QR.KEYGEN` that sets `ERR` took the fault branch; a search that goes on leaves `ERR` as it is. -/
theorem failed_of_keygenStep_err {kbits : Nat} {s : State} (clear : (s.shell .qr).err = false)
    (err : ((keygenStep kbits s).shell .qr).err = true) : ∃ e, Failed s (keygenStep kbits s) .qr e := by
  rcases keygenStep_cases kbits s with ⟨-, turn⟩ | ⟨-, -, turn⟩ | ⟨-, -, ⟨p, q, drawn, -, turn⟩ | ⟨f, drawn, -, turn⟩⟩
  · exact ⟨_, turn ▸ failed_finishQr s _⟩
  · exact ⟨_, turn ▸ failed_finishQr s _⟩
  · rw [turn] at err ⊢
    exact failed_of_finishQr_err nofun err
  · rw [turn] at err
    exact absurd (clear.symm.trans err) Bool.false_ne_true

/-- Settles O57: a command that sets `ERR` ends with a fault of its rule, and no rule draws before its fault. -/
theorem everyFaultIsPrecise : Obligations.EveryFaultIsPrecise := by
  refine ⟨⟨rfl, rfl, rfl, rfl, rfl, rfl, rfl, rfl, rfl⟩, fun i s t run clear err => ?_⟩
  rcases exec_result run with ⟨bc, rfl⟩ | ⟨qr, rfl⟩ | ⟨kbits, rfl, rfl⟩
  · rw [bc] at err ⊢
    exact failed_of_finishBc_err err
  · rw [qr] at err ⊢
    exact failed_of_finishQr_err (fun _ => qrRule_error_entropy) err
  · exact failed_of_keygenStep_err clear err

end Sys2Proof.Machine
end

section
/-! SUPPORT. The reset input (R300, R301). -/

namespace Sys2Proof.Machine

/-- R15, R300: the turn of the reset input asserts it, whatever the units are doing. -/
theorem step_reset {s : State} (turn : s.currentAgent = .reset) : step s = .next s.assertReset.endTurn :=
  step_next s s.assertReset (turn ▸ takeTurn_reset s)

/-- R51: the registers of a unit read as after reset in every state whose units are those of reset. -/
theorem registers_of_units_reset {t : State} (bc : t.bc = BcUnit.reset) (qr : t.qr = QrUnit.reset) (u : UnitId) :
    t.statusWord u = 0 ∧ t.errcodeWord u = 0 ∧ t.ctrlWord u = 0 ∧ (t.shell u).ilen = 0 ∧ (t.shell u).olen = 0 ∧
      t.irq u = false := by
  have shell : t.shell u = State.reset.shell u := by
    cases u with
    | bc => exact congrArg BcUnit.shell bc
    | qr => exact congrArg QrUnit.shell qr
  have keyed : t.keyed u = State.reset.keyed u := by
    cases u with
    | bc => exact congrArg (·.key.isSome) bc
    | qr => exact congrArg (·.key.isSome) qr
  simp only [State.statusWord, State.errcodeWord, State.ctrlWord, State.irq, shell, keyed]
  exact reset_registers u

/-- Settles O19: the step replaces both units by those of reset, and the end of the turn leaves them so. -/
theorem resetTurn : Obligations.ResetTurn := fun s turn =>
  ⟨s.assertReset.endTurn, step_reset turn, rfl, rfl, rfl, registers_of_units_reset rfl rfl⟩

end Sys2Proof.Machine
end
